-- ==== Sys2Proof/Word.lean ====
section
/-!
DEFINITION. The words and addresses of the KM10 CORE (R6, R8, R51): plain synonyms of BitVec, nothing else.
Bit k of the manual, numbered from the most significant end, is the bit of weight 2^(35-k) of a `Word` (R8).
-/

namespace Sys2Proof

/-- A 36-bit memory word or accumulator (R50, R20). -/
abbrev Word := BitVec 36

/-- An 18-bit half of a word (R8). -/
abbrev Half := BitVec 18

/-- An 18-bit offset inside a section: an effective address E, a stack address, the right part of PC (R51). -/
abbrev Offset := BitVec 18

/-- A 30-bit virtual word address, 12-bit section then 18-bit offset (R51). -/
abbrev VAddr := BitVec 30

/-- The number of an accumulator of the active bank (R20). -/
abbrev AcNum := BitVec 4

/-- A device number (R32). -/
abbrev DevId := BitVec 7

end Sys2Proof
end

