-- ==== Sys2Proof/Config.lean ====
section
/-!
DEFINITION. What an implementation fixes (R7), the vocabulary of the device interface (R590, R591), and the free
values: what a device answers and does to its own registry entry is not the CORE's to say (R591, U6 of
spec/93_implementation_defined.md), so it is an opaque function that nothing can evaluate.
-/

namespace Sys2Proof

/-- The eight I/O operations, in the order of their sub-operation codes 0 to 7 (R590). -/
inductive IoOp where
  | blki | datai | blko | datao | cono | coni | consz | conso
  deriving DecidableEq, Repr

/-- One transaction on the device interface, or one diagnostic event for the host (R591, R597, R601, R655). -/
inductive IoEvent where
  /-- the CORE called `DataIn(d)` -/
  | dataIn (dev : DevId)
  /-- the CORE called `DataOut(d, w)` -/
  | dataOut (dev : DevId) (w : Word)
  /-- the CORE called `CondOut(d, e)` with the 18-bit E -/
  | condOut (dev : DevId) (e : Half)
  /-- the CORE called `CondIn(d)` -/
  | condIn (dev : DevId)
  /-- the CORE asked for the interrupt function word; the answer is discarded (R654) -/
  | getIntFuncWord (dev : DevId)
  /-- the device's `clearIO()` was called (R655) -/
  | clearIO (dev : DevId)
  /-- diagnostic: an I/O instruction named a device with no registry entry (R597) -/
  | noSuchDevice (dev : DevId)
  /-- diagnostic: an I/O instruction named an operation outside the device's capabilities (R597) -/
  | notImplemented (dev : DevId) (op : IoOp)
  deriving DecidableEq, Repr

/-- `IO_POLICY` (R7, R597). -/
inductive IoPolicy where
  | continue | fault
  deriving DecidableEq, Repr

/-- `UNASSIGNED_POLICY` (R7, R582). -/
inductive UnassignedPolicy where
  | muuo | refuse
  deriving DecidableEq, Repr

/-- The parameters of R7. They are arguments of the model (R36: not architectural state): no step and no instruction
writes them, and a statement about every state is a statement about every value of them. -/
structure Params where
  /-- `MEMWORDS`, the number of words of physical memory (R55) -/
  memWords : Nat
  /-- `EPT_BASE`, the executive process table (R61) -/
  eptBase : VAddr
  /-- `UPT_BASE`, the user process table (R61) -/
  uptBase : VAddr
  /-- `MAX_INDIRECT`, the indirect fetches allowed in one resolution (R84) -/
  maxIndirect : Nat
  /-- `MAX_XCT`, the re-dispatches allowed in one cycle (R625) -/
  maxXct : Nat
  /-- `IO_POLICY` (R597) -/
  ioPolicy : IoPolicy
  /-- `BLK_SKIP_ON_CARRY` (R592, R594) -/
  blkSkipOnCarry : Bool
  /-- `UNASSIGNED_POLICY` (R582) -/
  unassignedPolicy : UnassignedPolicy
  deriving DecidableEq, Repr

/-- Free value (log 8): the word a device's `DataIn` or `CondIn` returns, given the whole history of the device
interface with the request itself at its head, and ICOUNT. U6: any value. -/
opaque Config.deviceWord : List IoEvent → Nat → Word

/-- Free value (log 9): the `pending` flag of the device named by the newest event, after its handler ran (R591). -/
opaque Config.devicePending : List IoEvent → Nat → Bool

/-- Free value (log 9): the `level` of the device named by the newest event, after its handler ran (R591, R655). -/
opaque Config.deviceLevel : List IoEvent → Nat → BitVec 3

end Sys2Proof
end

