-- ==== Sys2Proof/Syntax.lean ====
section
/-!
DEFINITION. The instructions of the KM10 CORE: one constructor for every row of spec/opcode_table.json, in the
table's order. A basic-format instruction (R80) holds its `ac` field and its address part, an I/O instruction (R81)
its device number and its address part; a JRST function and IBP have no `ac` of their own, the field being the
function code (R91). Fields that an instruction ignores are kept (R90: don't care), so that no bit of a word is lost
(log 18).
-/

namespace Sys2Proof

/-- Bits 13 to 35 of an instruction word or of an indirect word: I, X, Y (R80). -/
structure AddrPart where
  /-- bit 13, the indirect bit -/
  indirect : Bool
  /-- bits 14-17, the index register number, 0 for none -/
  index : AcNum
  /-- bits 18-35, the displacement -/
  disp : Offset
  deriving DecidableEq, Repr

/-- The instruction set. Each constructor's rule of spec/ stands beside it. -/
inductive Instr where
  -- full-word move (spec/40_fullword_move.md)
  /-- MOVE (R121) -/
  | move (ac : AcNum) (m : AddrPart)
  /-- MOVEI (R122) -/
  | movei (ac : AcNum) (m : AddrPart)
  /-- MOVEM (R123) -/
  | movem (ac : AcNum) (m : AddrPart)
  /-- MOVES (R124) -/
  | moves (ac : AcNum) (m : AddrPart)
  /-- MOVS (R125) -/
  | movs (ac : AcNum) (m : AddrPart)
  /-- MOVSI (R126) -/
  | movsi (ac : AcNum) (m : AddrPart)
  /-- MOVSM (R127) -/
  | movsm (ac : AcNum) (m : AddrPart)
  /-- MOVSS (R128) -/
  | movss (ac : AcNum) (m : AddrPart)
  /-- MOVN (R129) -/
  | movn (ac : AcNum) (m : AddrPart)
  /-- MOVNI (R130) -/
  | movni (ac : AcNum) (m : AddrPart)
  /-- MOVNM (R131) -/
  | movnm (ac : AcNum) (m : AddrPart)
  /-- MOVNS (R132) -/
  | movns (ac : AcNum) (m : AddrPart)
  /-- MOVM (R133) -/
  | movm (ac : AcNum) (m : AddrPart)
  /-- MOVMI (R134) -/
  | movmi (ac : AcNum) (m : AddrPart)
  /-- MOVMM (R135) -/
  | movmm (ac : AcNum) (m : AddrPart)
  /-- MOVMS (R136) -/
  | movms (ac : AcNum) (m : AddrPart)
  /-- EXCH (R137) -/
  | exch (ac : AcNum) (m : AddrPart)
  /-- BLT (R138) -/
  | blt (ac : AcNum) (m : AddrPart)
  /-- DMOVE (R139) -/
  | dmove (ac : AcNum) (m : AddrPart)
  /-- DMOVN (R140) -/
  | dmovn (ac : AcNum) (m : AddrPart)
  /-- DMOVEM (R141) -/
  | dmovem (ac : AcNum) (m : AddrPart)
  /-- DMOVNM (R142) -/
  | dmovnm (ac : AcNum) (m : AddrPart)
  -- fixed and double-precision arithmetic (spec/41_fixed_arithmetic.md)
  /-- ADD (R160) -/
  | add (ac : AcNum) (m : AddrPart)
  /-- ADDI (R161) -/
  | addi (ac : AcNum) (m : AddrPart)
  /-- ADDM (R162) -/
  | addm (ac : AcNum) (m : AddrPart)
  /-- ADDB (R163) -/
  | addb (ac : AcNum) (m : AddrPart)
  /-- SUB (R164) -/
  | sub (ac : AcNum) (m : AddrPart)
  /-- SUBI (R165) -/
  | subi (ac : AcNum) (m : AddrPart)
  /-- SUBM (R166) -/
  | subm (ac : AcNum) (m : AddrPart)
  /-- SUBB (R167) -/
  | subb (ac : AcNum) (m : AddrPart)
  /-- IMUL (R168) -/
  | imul (ac : AcNum) (m : AddrPart)
  /-- IMULI (R169) -/
  | imuli (ac : AcNum) (m : AddrPart)
  /-- IMULM (R170) -/
  | imulm (ac : AcNum) (m : AddrPart)
  /-- IMULB (R171) -/
  | imulb (ac : AcNum) (m : AddrPart)
  /-- MUL (R172) -/
  | mul (ac : AcNum) (m : AddrPart)
  /-- MULI (R173) -/
  | muli (ac : AcNum) (m : AddrPart)
  /-- MULM (R174) -/
  | mulm (ac : AcNum) (m : AddrPart)
  /-- MULB (R175) -/
  | mulb (ac : AcNum) (m : AddrPart)
  /-- IDIV (R176) -/
  | idiv (ac : AcNum) (m : AddrPart)
  /-- IDIVI (R177) -/
  | idivi (ac : AcNum) (m : AddrPart)
  /-- IDIVM (R178) -/
  | idivm (ac : AcNum) (m : AddrPart)
  /-- IDIVB (R179) -/
  | idivb (ac : AcNum) (m : AddrPart)
  /-- DIV (R180) -/
  | div (ac : AcNum) (m : AddrPart)
  /-- DIVI (R181) -/
  | divi (ac : AcNum) (m : AddrPart)
  /-- DIVM (R182) -/
  | divm (ac : AcNum) (m : AddrPart)
  /-- DIVB (R183) -/
  | divb (ac : AcNum) (m : AddrPart)
  /-- DADD (R184) -/
  | dadd (ac : AcNum) (m : AddrPart)
  /-- DSUB (R185) -/
  | dsub (ac : AcNum) (m : AddrPart)
  /-- DMUL (R186) -/
  | dmul (ac : AcNum) (m : AddrPart)
  /-- DDIV (R187) -/
  | ddiv (ac : AcNum) (m : AddrPart)
  -- boolean (spec/42_boolean.md)
  /-- SETZ (R201) -/
  | setz (ac : AcNum) (m : AddrPart)
  /-- SETZI (R202) -/
  | setzi (ac : AcNum) (m : AddrPart)
  /-- SETZM (R203) -/
  | setzm (ac : AcNum) (m : AddrPart)
  /-- SETZB (R204) -/
  | setzb (ac : AcNum) (m : AddrPart)
  /-- AND (R205) -/
  | and (ac : AcNum) (m : AddrPart)
  /-- ANDI (R206) -/
  | andi (ac : AcNum) (m : AddrPart)
  /-- ANDM (R207) -/
  | andm (ac : AcNum) (m : AddrPart)
  /-- ANDB (R208) -/
  | andb (ac : AcNum) (m : AddrPart)
  /-- ANDCA (R209) -/
  | andca (ac : AcNum) (m : AddrPart)
  /-- ANDCAI (R210) -/
  | andcai (ac : AcNum) (m : AddrPart)
  /-- ANDCAM (R211) -/
  | andcam (ac : AcNum) (m : AddrPart)
  /-- ANDCAB (R212) -/
  | andcab (ac : AcNum) (m : AddrPart)
  /-- SETM (R213) -/
  | setm (ac : AcNum) (m : AddrPart)
  /-- SETMI (R214) -/
  | setmi (ac : AcNum) (m : AddrPart)
  /-- SETMM (R215) -/
  | setmm (ac : AcNum) (m : AddrPart)
  /-- SETMB (R216) -/
  | setmb (ac : AcNum) (m : AddrPart)
  /-- ANDCM (R217) -/
  | andcm (ac : AcNum) (m : AddrPart)
  /-- ANDCMI (R218) -/
  | andcmi (ac : AcNum) (m : AddrPart)
  /-- ANDCMM (R219) -/
  | andcmm (ac : AcNum) (m : AddrPart)
  /-- ANDCMB (R220) -/
  | andcmb (ac : AcNum) (m : AddrPart)
  /-- SETA (R221) -/
  | seta (ac : AcNum) (m : AddrPart)
  /-- SETAI (R222) -/
  | setai (ac : AcNum) (m : AddrPart)
  /-- SETAM (R223) -/
  | setam (ac : AcNum) (m : AddrPart)
  /-- SETAB (R224) -/
  | setab (ac : AcNum) (m : AddrPart)
  /-- XOR (R225) -/
  | xor (ac : AcNum) (m : AddrPart)
  /-- XORI (R226) -/
  | xori (ac : AcNum) (m : AddrPart)
  /-- XORM (R227) -/
  | xorm (ac : AcNum) (m : AddrPart)
  /-- XORB (R228) -/
  | xorb (ac : AcNum) (m : AddrPart)
  /-- IOR (R229) -/
  | ior (ac : AcNum) (m : AddrPart)
  /-- IORI (R230) -/
  | iori (ac : AcNum) (m : AddrPart)
  /-- IORM (R231) -/
  | iorm (ac : AcNum) (m : AddrPart)
  /-- IORB (R232) -/
  | iorb (ac : AcNum) (m : AddrPart)
  /-- ANDCB (R233) -/
  | andcb (ac : AcNum) (m : AddrPart)
  /-- ANDCBI (R234) -/
  | andcbi (ac : AcNum) (m : AddrPart)
  /-- ANDCBM (R235) -/
  | andcbm (ac : AcNum) (m : AddrPart)
  /-- ANDCBB (R236) -/
  | andcbb (ac : AcNum) (m : AddrPart)
  /-- EQV (R237) -/
  | eqv (ac : AcNum) (m : AddrPart)
  /-- EQVI (R238) -/
  | eqvi (ac : AcNum) (m : AddrPart)
  /-- EQVM (R239) -/
  | eqvm (ac : AcNum) (m : AddrPart)
  /-- EQVB (R240) -/
  | eqvb (ac : AcNum) (m : AddrPart)
  /-- SETCA (R241) -/
  | setca (ac : AcNum) (m : AddrPart)
  /-- SETCAI (R242) -/
  | setcai (ac : AcNum) (m : AddrPart)
  /-- SETCAM (R243) -/
  | setcam (ac : AcNum) (m : AddrPart)
  /-- SETCAB (R244) -/
  | setcab (ac : AcNum) (m : AddrPart)
  /-- ORCA (R245) -/
  | orca (ac : AcNum) (m : AddrPart)
  /-- ORCAI (R246) -/
  | orcai (ac : AcNum) (m : AddrPart)
  /-- ORCAM (R247) -/
  | orcam (ac : AcNum) (m : AddrPart)
  /-- ORCAB (R248) -/
  | orcab (ac : AcNum) (m : AddrPart)
  /-- SETCM (R249) -/
  | setcm (ac : AcNum) (m : AddrPart)
  /-- SETCMI (R250) -/
  | setcmi (ac : AcNum) (m : AddrPart)
  /-- SETCMM (R251) -/
  | setcmm (ac : AcNum) (m : AddrPart)
  /-- SETCMB (R252) -/
  | setcmb (ac : AcNum) (m : AddrPart)
  /-- ORCM (R253) -/
  | orcm (ac : AcNum) (m : AddrPart)
  /-- ORCMI (R254) -/
  | orcmi (ac : AcNum) (m : AddrPart)
  /-- ORCMM (R255) -/
  | orcmm (ac : AcNum) (m : AddrPart)
  /-- ORCMB (R256) -/
  | orcmb (ac : AcNum) (m : AddrPart)
  /-- ORCB (R257) -/
  | orcb (ac : AcNum) (m : AddrPart)
  /-- ORCBI (R258) -/
  | orcbi (ac : AcNum) (m : AddrPart)
  /-- ORCBM (R259) -/
  | orcbm (ac : AcNum) (m : AddrPart)
  /-- ORCBB (R260) -/
  | orcbb (ac : AcNum) (m : AddrPart)
  /-- SETO (R261) -/
  | seto (ac : AcNum) (m : AddrPart)
  /-- SETOI (R262) -/
  | setoi (ac : AcNum) (m : AddrPart)
  /-- SETOM (R263) -/
  | setom (ac : AcNum) (m : AddrPart)
  /-- SETOB (R264) -/
  | setob (ac : AcNum) (m : AddrPart)
  -- shift and rotate (spec/43_shift_rotate.md)
  /-- ASH (R271) -/
  | ash (ac : AcNum) (m : AddrPart)
  /-- ROT (R272) -/
  | rot (ac : AcNum) (m : AddrPart)
  /-- LSH (R273) -/
  | lsh (ac : AcNum) (m : AddrPart)
  /-- ASHC (R274) -/
  | ashc (ac : AcNum) (m : AddrPart)
  /-- ROTC (R275) -/
  | rotc (ac : AcNum) (m : AddrPart)
  /-- LSHC (R276) -/
  | lshc (ac : AcNum) (m : AddrPart)
  -- arithmetic test, skip, jump, loop (spec/44_arith_test.md)
  /-- CAI (R291) -/
  | cai (ac : AcNum) (m : AddrPart)
  /-- CAIL (R292) -/
  | cail (ac : AcNum) (m : AddrPart)
  /-- CAIE (R293) -/
  | caie (ac : AcNum) (m : AddrPart)
  /-- CAILE (R294) -/
  | caile (ac : AcNum) (m : AddrPart)
  /-- CAIA (R295) -/
  | caia (ac : AcNum) (m : AddrPart)
  /-- CAIGE (R296) -/
  | caige (ac : AcNum) (m : AddrPart)
  /-- CAIN (R297) -/
  | cain (ac : AcNum) (m : AddrPart)
  /-- CAIG (R298) -/
  | caig (ac : AcNum) (m : AddrPart)
  /-- CAM (R299) -/
  | cam (ac : AcNum) (m : AddrPart)
  /-- CAML (R300) -/
  | caml (ac : AcNum) (m : AddrPart)
  /-- CAME (R301) -/
  | came (ac : AcNum) (m : AddrPart)
  /-- CAMLE (R302) -/
  | camle (ac : AcNum) (m : AddrPart)
  /-- CAMA (R303) -/
  | cama (ac : AcNum) (m : AddrPart)
  /-- CAMGE (R304) -/
  | camge (ac : AcNum) (m : AddrPart)
  /-- CAMN (R305) -/
  | camn (ac : AcNum) (m : AddrPart)
  /-- CAMG (R306) -/
  | camg (ac : AcNum) (m : AddrPart)
  /-- JUMP (R307) -/
  | jump (ac : AcNum) (m : AddrPart)
  /-- JUMPL (R308) -/
  | jumpl (ac : AcNum) (m : AddrPart)
  /-- JUMPE (R309) -/
  | jumpe (ac : AcNum) (m : AddrPart)
  /-- JUMPLE (R310) -/
  | jumple (ac : AcNum) (m : AddrPart)
  /-- JUMPA (R311) -/
  | jumpa (ac : AcNum) (m : AddrPart)
  /-- JUMPGE (R312) -/
  | jumpge (ac : AcNum) (m : AddrPart)
  /-- JUMPN (R313) -/
  | jumpn (ac : AcNum) (m : AddrPart)
  /-- JUMPG (R314) -/
  | jumpg (ac : AcNum) (m : AddrPart)
  /-- SKIP (R315) -/
  | skip (ac : AcNum) (m : AddrPart)
  /-- SKIPL (R316) -/
  | skipl (ac : AcNum) (m : AddrPart)
  /-- SKIPE (R317) -/
  | skipe (ac : AcNum) (m : AddrPart)
  /-- SKIPLE (R318) -/
  | skiple (ac : AcNum) (m : AddrPart)
  /-- SKIPA (R319) -/
  | skipa (ac : AcNum) (m : AddrPart)
  /-- SKIPGE (R320) -/
  | skipge (ac : AcNum) (m : AddrPart)
  /-- SKIPN (R321) -/
  | skipn (ac : AcNum) (m : AddrPart)
  /-- SKIPG (R322) -/
  | skipg (ac : AcNum) (m : AddrPart)
  /-- AOJ (R323) -/
  | aoj (ac : AcNum) (m : AddrPart)
  /-- AOJL (R324) -/
  | aojl (ac : AcNum) (m : AddrPart)
  /-- AOJE (R325) -/
  | aoje (ac : AcNum) (m : AddrPart)
  /-- AOJLE (R326) -/
  | aojle (ac : AcNum) (m : AddrPart)
  /-- AOJA (R327) -/
  | aoja (ac : AcNum) (m : AddrPart)
  /-- AOJGE (R328) -/
  | aojge (ac : AcNum) (m : AddrPart)
  /-- AOJN (R329) -/
  | aojn (ac : AcNum) (m : AddrPart)
  /-- AOJG (R330) -/
  | aojg (ac : AcNum) (m : AddrPart)
  /-- AOS (R331) -/
  | aos (ac : AcNum) (m : AddrPart)
  /-- AOSL (R332) -/
  | aosl (ac : AcNum) (m : AddrPart)
  /-- AOSE (R333) -/
  | aose (ac : AcNum) (m : AddrPart)
  /-- AOSLE (R334) -/
  | aosle (ac : AcNum) (m : AddrPart)
  /-- AOSA (R335) -/
  | aosa (ac : AcNum) (m : AddrPart)
  /-- AOSGE (R336) -/
  | aosge (ac : AcNum) (m : AddrPart)
  /-- AOSN (R337) -/
  | aosn (ac : AcNum) (m : AddrPart)
  /-- AOSG (R338) -/
  | aosg (ac : AcNum) (m : AddrPart)
  /-- SOJ (R339) -/
  | soj (ac : AcNum) (m : AddrPart)
  /-- SOJL (R340) -/
  | sojl (ac : AcNum) (m : AddrPart)
  /-- SOJE (R341) -/
  | soje (ac : AcNum) (m : AddrPart)
  /-- SOJLE (R342) -/
  | sojle (ac : AcNum) (m : AddrPart)
  /-- SOJA (R343) -/
  | soja (ac : AcNum) (m : AddrPart)
  /-- SOJGE (R344) -/
  | sojge (ac : AcNum) (m : AddrPart)
  /-- SOJN (R345) -/
  | sojn (ac : AcNum) (m : AddrPart)
  /-- SOJG (R346) -/
  | sojg (ac : AcNum) (m : AddrPart)
  /-- SOS (R347) -/
  | sos (ac : AcNum) (m : AddrPart)
  /-- SOSL (R348) -/
  | sosl (ac : AcNum) (m : AddrPart)
  /-- SOSE (R349) -/
  | sose (ac : AcNum) (m : AddrPart)
  /-- SOSLE (R350) -/
  | sosle (ac : AcNum) (m : AddrPart)
  /-- SOSA (R351) -/
  | sosa (ac : AcNum) (m : AddrPart)
  /-- SOSGE (R352) -/
  | sosge (ac : AcNum) (m : AddrPart)
  /-- SOSN (R353) -/
  | sosn (ac : AcNum) (m : AddrPart)
  /-- SOSG (R354) -/
  | sosg (ac : AcNum) (m : AddrPart)
  /-- AOBJP (R355) -/
  | aobjp (ac : AcNum) (m : AddrPart)
  /-- AOBJN (R356) -/
  | aobjn (ac : AcNum) (m : AddrPart)
  /-- JFFO (R357) -/
  | jffo (ac : AcNum) (m : AddrPart)
  -- half-word transfer (spec/45_halfword.md)
  /-- HLL (R371) -/
  | hll (ac : AcNum) (m : AddrPart)
  /-- HLLI (R372) -/
  | hlli (ac : AcNum) (m : AddrPart)
  /-- HLLM (R373) -/
  | hllm (ac : AcNum) (m : AddrPart)
  /-- HLLS (R374) -/
  | hlls (ac : AcNum) (m : AddrPart)
  /-- HRL (R375) -/
  | hrl (ac : AcNum) (m : AddrPart)
  /-- HRLI (R376) -/
  | hrli (ac : AcNum) (m : AddrPart)
  /-- HRLM (R377) -/
  | hrlm (ac : AcNum) (m : AddrPart)
  /-- HRLS (R378) -/
  | hrls (ac : AcNum) (m : AddrPart)
  /-- HLLZ (R379) -/
  | hllz (ac : AcNum) (m : AddrPart)
  /-- HLLZI (R380) -/
  | hllzi (ac : AcNum) (m : AddrPart)
  /-- HLLZM (R381) -/
  | hllzm (ac : AcNum) (m : AddrPart)
  /-- HLLZS (R382) -/
  | hllzs (ac : AcNum) (m : AddrPart)
  /-- HRLZ (R383) -/
  | hrlz (ac : AcNum) (m : AddrPart)
  /-- HRLZI (R384) -/
  | hrlzi (ac : AcNum) (m : AddrPart)
  /-- HRLZM (R385) -/
  | hrlzm (ac : AcNum) (m : AddrPart)
  /-- HRLZS (R386) -/
  | hrlzs (ac : AcNum) (m : AddrPart)
  /-- HLLO (R387) -/
  | hllo (ac : AcNum) (m : AddrPart)
  /-- HLLOI (R388) -/
  | hlloi (ac : AcNum) (m : AddrPart)
  /-- HLLOM (R389) -/
  | hllom (ac : AcNum) (m : AddrPart)
  /-- HLLOS (R390) -/
  | hllos (ac : AcNum) (m : AddrPart)
  /-- HRLO (R391) -/
  | hrlo (ac : AcNum) (m : AddrPart)
  /-- HRLOI (R392) -/
  | hrloi (ac : AcNum) (m : AddrPart)
  /-- HRLOM (R393) -/
  | hrlom (ac : AcNum) (m : AddrPart)
  /-- HRLOS (R394) -/
  | hrlos (ac : AcNum) (m : AddrPart)
  /-- HLLE (R395) -/
  | hlle (ac : AcNum) (m : AddrPart)
  /-- HLLEI (R396) -/
  | hllei (ac : AcNum) (m : AddrPart)
  /-- HLLEM (R397) -/
  | hllem (ac : AcNum) (m : AddrPart)
  /-- HLLES (R398) -/
  | hlles (ac : AcNum) (m : AddrPart)
  /-- HRLE (R399) -/
  | hrle (ac : AcNum) (m : AddrPart)
  /-- HRLEI (R400) -/
  | hrlei (ac : AcNum) (m : AddrPart)
  /-- HRLEM (R401) -/
  | hrlem (ac : AcNum) (m : AddrPart)
  /-- HRLES (R402) -/
  | hrles (ac : AcNum) (m : AddrPart)
  /-- HRR (R403) -/
  | hrr (ac : AcNum) (m : AddrPart)
  /-- HRRI (R404) -/
  | hrri (ac : AcNum) (m : AddrPart)
  /-- HRRM (R405) -/
  | hrrm (ac : AcNum) (m : AddrPart)
  /-- HRRS (R406) -/
  | hrrs (ac : AcNum) (m : AddrPart)
  /-- HLR (R407) -/
  | hlr (ac : AcNum) (m : AddrPart)
  /-- HLRI (R408) -/
  | hlri (ac : AcNum) (m : AddrPart)
  /-- HLRM (R409) -/
  | hlrm (ac : AcNum) (m : AddrPart)
  /-- HLRS (R410) -/
  | hlrs (ac : AcNum) (m : AddrPart)
  /-- HRRZ (R411) -/
  | hrrz (ac : AcNum) (m : AddrPart)
  /-- HRRZI (R412) -/
  | hrrzi (ac : AcNum) (m : AddrPart)
  /-- HRRZM (R413) -/
  | hrrzm (ac : AcNum) (m : AddrPart)
  /-- HRRZS (R414) -/
  | hrrzs (ac : AcNum) (m : AddrPart)
  /-- HLRZ (R415) -/
  | hlrz (ac : AcNum) (m : AddrPart)
  /-- HLRZI (R416) -/
  | hlrzi (ac : AcNum) (m : AddrPart)
  /-- HLRZM (R417) -/
  | hlrzm (ac : AcNum) (m : AddrPart)
  /-- HLRZS (R418) -/
  | hlrzs (ac : AcNum) (m : AddrPart)
  /-- HRRO (R419) -/
  | hrro (ac : AcNum) (m : AddrPart)
  /-- HRROI (R420) -/
  | hrroi (ac : AcNum) (m : AddrPart)
  /-- HRROM (R421) -/
  | hrrom (ac : AcNum) (m : AddrPart)
  /-- HRROS (R422) -/
  | hrros (ac : AcNum) (m : AddrPart)
  /-- HLRO (R423) -/
  | hlro (ac : AcNum) (m : AddrPart)
  /-- HLROI (R424) -/
  | hlroi (ac : AcNum) (m : AddrPart)
  /-- HLROM (R425) -/
  | hlrom (ac : AcNum) (m : AddrPart)
  /-- HLROS (R426) -/
  | hlros (ac : AcNum) (m : AddrPart)
  /-- HRRE (R427) -/
  | hrre (ac : AcNum) (m : AddrPart)
  /-- HRREI (R428) -/
  | hrrei (ac : AcNum) (m : AddrPart)
  /-- HRREM (R429) -/
  | hrrem (ac : AcNum) (m : AddrPart)
  /-- HRRES (R430) -/
  | hrres (ac : AcNum) (m : AddrPart)
  /-- HLRE (R431) -/
  | hlre (ac : AcNum) (m : AddrPart)
  /-- HLREI (R432) -/
  | hlrei (ac : AcNum) (m : AddrPart)
  /-- HLREM (R433) -/
  | hlrem (ac : AcNum) (m : AddrPart)
  /-- HLRES (R434) -/
  | hlres (ac : AcNum) (m : AddrPart)
  -- logical test-and-modify (spec/46_logical_test.md)
  /-- TRN (R441) -/
  | trn (ac : AcNum) (m : AddrPart)
  /-- TLN (R442) -/
  | tln (ac : AcNum) (m : AddrPart)
  /-- TRNE (R443) -/
  | trne (ac : AcNum) (m : AddrPart)
  /-- TLNE (R444) -/
  | tlne (ac : AcNum) (m : AddrPart)
  /-- TRNA (R445) -/
  | trna (ac : AcNum) (m : AddrPart)
  /-- TLNA (R446) -/
  | tlna (ac : AcNum) (m : AddrPart)
  /-- TRNN (R447) -/
  | trnn (ac : AcNum) (m : AddrPart)
  /-- TLNN (R448) -/
  | tlnn (ac : AcNum) (m : AddrPart)
  /-- TDN (R449) -/
  | tdn (ac : AcNum) (m : AddrPart)
  /-- TSN (R450) -/
  | tsn (ac : AcNum) (m : AddrPart)
  /-- TDNE (R451) -/
  | tdne (ac : AcNum) (m : AddrPart)
  /-- TSNE (R452) -/
  | tsne (ac : AcNum) (m : AddrPart)
  /-- TDNA (R453) -/
  | tdna (ac : AcNum) (m : AddrPart)
  /-- TSNA (R454) -/
  | tsna (ac : AcNum) (m : AddrPart)
  /-- TDNN (R455) -/
  | tdnn (ac : AcNum) (m : AddrPart)
  /-- TSNN (R456) -/
  | tsnn (ac : AcNum) (m : AddrPart)
  /-- TRZ (R457) -/
  | trz (ac : AcNum) (m : AddrPart)
  /-- TLZ (R458) -/
  | tlz (ac : AcNum) (m : AddrPart)
  /-- TRZE (R459) -/
  | trze (ac : AcNum) (m : AddrPart)
  /-- TLZE (R460) -/
  | tlze (ac : AcNum) (m : AddrPart)
  /-- TRZA (R461) -/
  | trza (ac : AcNum) (m : AddrPart)
  /-- TLZA (R462) -/
  | tlza (ac : AcNum) (m : AddrPart)
  /-- TRZN (R463) -/
  | trzn (ac : AcNum) (m : AddrPart)
  /-- TLZN (R464) -/
  | tlzn (ac : AcNum) (m : AddrPart)
  /-- TDZ (R465) -/
  | tdz (ac : AcNum) (m : AddrPart)
  /-- TSZ (R466) -/
  | tsz (ac : AcNum) (m : AddrPart)
  /-- TDZE (R467) -/
  | tdze (ac : AcNum) (m : AddrPart)
  /-- TSZE (R468) -/
  | tsze (ac : AcNum) (m : AddrPart)
  /-- TDZA (R469) -/
  | tdza (ac : AcNum) (m : AddrPart)
  /-- TSZA (R470) -/
  | tsza (ac : AcNum) (m : AddrPart)
  /-- TDZN (R471) -/
  | tdzn (ac : AcNum) (m : AddrPart)
  /-- TSZN (R472) -/
  | tszn (ac : AcNum) (m : AddrPart)
  /-- TRC (R473) -/
  | trc (ac : AcNum) (m : AddrPart)
  /-- TLC (R474) -/
  | tlc (ac : AcNum) (m : AddrPart)
  /-- TRCE (R475) -/
  | trce (ac : AcNum) (m : AddrPart)
  /-- TLCE (R476) -/
  | tlce (ac : AcNum) (m : AddrPart)
  /-- TRCA (R477) -/
  | trca (ac : AcNum) (m : AddrPart)
  /-- TLCA (R478) -/
  | tlca (ac : AcNum) (m : AddrPart)
  /-- TRCN (R479) -/
  | trcn (ac : AcNum) (m : AddrPart)
  /-- TLCN (R480) -/
  | tlcn (ac : AcNum) (m : AddrPart)
  /-- TDC (R481) -/
  | tdc (ac : AcNum) (m : AddrPart)
  /-- TSC (R482) -/
  | tsc (ac : AcNum) (m : AddrPart)
  /-- TDCE (R483) -/
  | tdce (ac : AcNum) (m : AddrPart)
  /-- TSCE (R484) -/
  | tsce (ac : AcNum) (m : AddrPart)
  /-- TDCA (R485) -/
  | tdca (ac : AcNum) (m : AddrPart)
  /-- TSCA (R486) -/
  | tsca (ac : AcNum) (m : AddrPart)
  /-- TDCN (R487) -/
  | tdcn (ac : AcNum) (m : AddrPart)
  /-- TSCN (R488) -/
  | tscn (ac : AcNum) (m : AddrPart)
  /-- TRO (R489) -/
  | tro (ac : AcNum) (m : AddrPart)
  /-- TLO (R490) -/
  | tlo (ac : AcNum) (m : AddrPart)
  /-- TROE (R491) -/
  | troe (ac : AcNum) (m : AddrPart)
  /-- TLOE (R492) -/
  | tloe (ac : AcNum) (m : AddrPart)
  /-- TROA (R493) -/
  | troa (ac : AcNum) (m : AddrPart)
  /-- TLOA (R494) -/
  | tloa (ac : AcNum) (m : AddrPart)
  /-- TRON (R495) -/
  | tron (ac : AcNum) (m : AddrPart)
  /-- TLON (R496) -/
  | tlon (ac : AcNum) (m : AddrPart)
  /-- TDO (R497) -/
  | tdo (ac : AcNum) (m : AddrPart)
  /-- TSO (R498) -/
  | tso (ac : AcNum) (m : AddrPart)
  /-- TDOE (R499) -/
  | tdoe (ac : AcNum) (m : AddrPart)
  /-- TSOE (R500) -/
  | tsoe (ac : AcNum) (m : AddrPart)
  /-- TDOA (R501) -/
  | tdoa (ac : AcNum) (m : AddrPart)
  /-- TSOA (R502) -/
  | tsoa (ac : AcNum) (m : AddrPart)
  /-- TDON (R503) -/
  | tdon (ac : AcNum) (m : AddrPart)
  /-- TSON (R504) -/
  | tson (ac : AcNum) (m : AddrPart)
  -- program control and stack (spec/47_program_control.md)
  /-- JRST (R511) -/
  | jrst (m : AddrPart)
  /-- PORTAL (R512) -/
  | portal (m : AddrPart)
  /-- JRSTF (R514) -/
  | jrstf (m : AddrPart)
  /-- HALT (R515) -/
  | halt (m : AddrPart)
  /-- JRST 10 (R516) -/
  | jrst10 (m : AddrPart)
  /-- JEN (R517) -/
  | jen (m : AddrPart)
  /-- JRST 3 unassigned function (R518) -/
  | jrstFn3 (m : AddrPart)
  /-- JRST 5 unassigned function (R518) -/
  | jrstFn5 (m : AddrPart)
  /-- JRST 6 unassigned function (R518) -/
  | jrstFn6 (m : AddrPart)
  /-- JRST 7 unassigned function (R518) -/
  | jrstFn7 (m : AddrPart)
  /-- JRST 11 unassigned function (R518) -/
  | jrstFn11 (m : AddrPart)
  /-- JRST 13 unassigned function (R518) -/
  | jrstFn13 (m : AddrPart)
  /-- JRST 14 unassigned function (R518) -/
  | jrstFn14 (m : AddrPart)
  /-- JRST 15 unassigned function (R518) -/
  | jrstFn15 (m : AddrPart)
  /-- JRST 16 unassigned function (R518) -/
  | jrstFn16 (m : AddrPart)
  /-- JRST 17 unassigned function (R518) -/
  | jrstFn17 (m : AddrPart)
  /-- JFCL (R521) -/
  | jfcl (ac : AcNum) (m : AddrPart)
  /-- XCT (R522) -/
  | xct (ac : AcNum) (m : AddrPart)
  /-- JSR (R523) -/
  | jsr (ac : AcNum) (m : AddrPart)
  /-- JSP (R524) -/
  | jsp (ac : AcNum) (m : AddrPart)
  /-- JSA (R525) -/
  | jsa (ac : AcNum) (m : AddrPart)
  /-- JRA (R526) -/
  | jra (ac : AcNum) (m : AddrPart)
  /-- PUSHJ (R527) -/
  | pushj (ac : AcNum) (m : AddrPart)
  /-- POPJ (R528) -/
  | popj (ac : AcNum) (m : AddrPart)
  /-- PUSH (R531) -/
  | push (ac : AcNum) (m : AddrPart)
  /-- POP (R532) -/
  | pop (ac : AcNum) (m : AddrPart)
  /-- ADJSP (R533) -/
  | adjsp (ac : AcNum) (m : AddrPart)
  -- byte (spec/48_byte.md)
  /-- IBP (R558) -/
  | ibp (m : AddrPart)
  /-- ADJBP (R560) -/
  | adjbp (ac : AcNum) (m : AddrPart)
  /-- ILDB (R554) -/
  | ildb (ac : AcNum) (m : AddrPart)
  /-- LDB (R555) -/
  | ldb (ac : AcNum) (m : AddrPart)
  /-- IDPB (R556) -/
  | idpb (ac : AcNum) (m : AddrPart)
  /-- DPB (R557) -/
  | dpb (ac : AcNum) (m : AddrPart)
  -- monitor calls, local calls, unassigned opcodes (spec/49_uuo_and_io.md)
  /-- MUUO (R581) -/
  | muuo (ac : AcNum) (m : AddrPart)
  /-- LUUO 001 (R580) -/
  | luuo001 (ac : AcNum) (m : AddrPart)
  /-- LUUO 002 (R580) -/
  | luuo002 (ac : AcNum) (m : AddrPart)
  /-- LUUO 003 (R580) -/
  | luuo003 (ac : AcNum) (m : AddrPart)
  /-- LUUO 004 (R580) -/
  | luuo004 (ac : AcNum) (m : AddrPart)
  /-- LUUO 005 (R580) -/
  | luuo005 (ac : AcNum) (m : AddrPart)
  /-- LUUO 006 (R580) -/
  | luuo006 (ac : AcNum) (m : AddrPart)
  /-- LUUO 007 (R580) -/
  | luuo007 (ac : AcNum) (m : AddrPart)
  /-- LUUO 010 (R580) -/
  | luuo010 (ac : AcNum) (m : AddrPart)
  /-- LUUO 011 (R580) -/
  | luuo011 (ac : AcNum) (m : AddrPart)
  /-- LUUO 012 (R580) -/
  | luuo012 (ac : AcNum) (m : AddrPart)
  /-- LUUO 013 (R580) -/
  | luuo013 (ac : AcNum) (m : AddrPart)
  /-- LUUO 014 (R580) -/
  | luuo014 (ac : AcNum) (m : AddrPart)
  /-- LUUO 015 (R580) -/
  | luuo015 (ac : AcNum) (m : AddrPart)
  /-- LUUO 016 (R580) -/
  | luuo016 (ac : AcNum) (m : AddrPart)
  /-- LUUO 017 (R580) -/
  | luuo017 (ac : AcNum) (m : AddrPart)
  /-- LUUO 020 (R580) -/
  | luuo020 (ac : AcNum) (m : AddrPart)
  /-- LUUO 021 (R580) -/
  | luuo021 (ac : AcNum) (m : AddrPart)
  /-- LUUO 022 (R580) -/
  | luuo022 (ac : AcNum) (m : AddrPart)
  /-- LUUO 023 (R580) -/
  | luuo023 (ac : AcNum) (m : AddrPart)
  /-- LUUO 024 (R580) -/
  | luuo024 (ac : AcNum) (m : AddrPart)
  /-- LUUO 025 (R580) -/
  | luuo025 (ac : AcNum) (m : AddrPart)
  /-- LUUO 026 (R580) -/
  | luuo026 (ac : AcNum) (m : AddrPart)
  /-- LUUO 027 (R580) -/
  | luuo027 (ac : AcNum) (m : AddrPart)
  /-- LUUO 030 (R580) -/
  | luuo030 (ac : AcNum) (m : AddrPart)
  /-- LUUO 031 (R580) -/
  | luuo031 (ac : AcNum) (m : AddrPart)
  /-- LUUO 032 (R580) -/
  | luuo032 (ac : AcNum) (m : AddrPart)
  /-- LUUO 033 (R580) -/
  | luuo033 (ac : AcNum) (m : AddrPart)
  /-- LUUO 034 (R580) -/
  | luuo034 (ac : AcNum) (m : AddrPart)
  /-- LUUO 035 (R580) -/
  | luuo035 (ac : AcNum) (m : AddrPart)
  /-- LUUO 036 (R580) -/
  | luuo036 (ac : AcNum) (m : AddrPart)
  /-- LUUO 037 (R580) -/
  | luuo037 (ac : AcNum) (m : AddrPart)
  /-- MUUO 040 (R581) -/
  | muuo040 (ac : AcNum) (m : AddrPart)
  /-- MUUO 041 (R581) -/
  | muuo041 (ac : AcNum) (m : AddrPart)
  /-- MUUO 042 (R581) -/
  | muuo042 (ac : AcNum) (m : AddrPart)
  /-- MUUO 043 (R581) -/
  | muuo043 (ac : AcNum) (m : AddrPart)
  /-- MUUO 044 (R581) -/
  | muuo044 (ac : AcNum) (m : AddrPart)
  /-- MUUO 045 (R581) -/
  | muuo045 (ac : AcNum) (m : AddrPart)
  /-- MUUO 046 (R581) -/
  | muuo046 (ac : AcNum) (m : AddrPart)
  /-- MUUO 047 (R581) -/
  | muuo047 (ac : AcNum) (m : AddrPart)
  /-- MUUO 050 (R581) -/
  | muuo050 (ac : AcNum) (m : AddrPart)
  /-- MUUO 051 (R581) -/
  | muuo051 (ac : AcNum) (m : AddrPart)
  /-- MUUO 052 (R581) -/
  | muuo052 (ac : AcNum) (m : AddrPart)
  /-- MUUO 053 (R581) -/
  | muuo053 (ac : AcNum) (m : AddrPart)
  /-- MUUO 054 (R581) -/
  | muuo054 (ac : AcNum) (m : AddrPart)
  /-- MUUO 055 (R581) -/
  | muuo055 (ac : AcNum) (m : AddrPart)
  /-- MUUO 056 (R581) -/
  | muuo056 (ac : AcNum) (m : AddrPart)
  /-- MUUO 057 (R581) -/
  | muuo057 (ac : AcNum) (m : AddrPart)
  /-- MUUO 060 (R581) -/
  | muuo060 (ac : AcNum) (m : AddrPart)
  /-- MUUO 061 (R581) -/
  | muuo061 (ac : AcNum) (m : AddrPart)
  /-- MUUO 062 (R581) -/
  | muuo062 (ac : AcNum) (m : AddrPart)
  /-- MUUO 063 (R581) -/
  | muuo063 (ac : AcNum) (m : AddrPart)
  /-- MUUO 064 (R581) -/
  | muuo064 (ac : AcNum) (m : AddrPart)
  /-- MUUO 065 (R581) -/
  | muuo065 (ac : AcNum) (m : AddrPart)
  /-- MUUO 066 (R581) -/
  | muuo066 (ac : AcNum) (m : AddrPart)
  /-- MUUO 067 (R581) -/
  | muuo067 (ac : AcNum) (m : AddrPart)
  /-- MUUO 070 (R581) -/
  | muuo070 (ac : AcNum) (m : AddrPart)
  /-- MUUO 071 (R581) -/
  | muuo071 (ac : AcNum) (m : AddrPart)
  /-- MUUO 072 (R581) -/
  | muuo072 (ac : AcNum) (m : AddrPart)
  /-- MUUO 073 (R581) -/
  | muuo073 (ac : AcNum) (m : AddrPart)
  /-- MUUO 074 (R581) -/
  | muuo074 (ac : AcNum) (m : AddrPart)
  /-- MUUO 075 (R581) -/
  | muuo075 (ac : AcNum) (m : AddrPart)
  /-- MUUO 076 (R581) -/
  | muuo076 (ac : AcNum) (m : AddrPart)
  /-- MUUO 077 (R581) -/
  | muuo077 (ac : AcNum) (m : AddrPart)
  /-- UNASSIGNED 100 (R582) -/
  | unassigned100 (ac : AcNum) (m : AddrPart)
  /-- UNASSIGNED 101 (R582) -/
  | unassigned101 (ac : AcNum) (m : AddrPart)
  /-- UNASSIGNED 102 (R582) -/
  | unassigned102 (ac : AcNum) (m : AddrPart)
  /-- UNASSIGNED 103 (R582) -/
  | unassigned103 (ac : AcNum) (m : AddrPart)
  /-- UNASSIGNED 104 (R582) -/
  | unassigned104 (ac : AcNum) (m : AddrPart)
  /-- UNASSIGNED 106 (R582) -/
  | unassigned106 (ac : AcNum) (m : AddrPart)
  /-- UNASSIGNED 107 (R582) -/
  | unassigned107 (ac : AcNum) (m : AddrPart)
  /-- UNASSIGNED 110 (R582) -/
  | unassigned110 (ac : AcNum) (m : AddrPart)
  /-- UNASSIGNED 111 (R582) -/
  | unassigned111 (ac : AcNum) (m : AddrPart)
  /-- UNASSIGNED 112 (R582) -/
  | unassigned112 (ac : AcNum) (m : AddrPart)
  /-- UNASSIGNED 113 (R582) -/
  | unassigned113 (ac : AcNum) (m : AddrPart)
  /-- UNASSIGNED 122 (R582) -/
  | unassigned122 (ac : AcNum) (m : AddrPart)
  /-- UNASSIGNED 123 (R582) -/
  | unassigned123 (ac : AcNum) (m : AddrPart)
  /-- UNASSIGNED 126 (R582) -/
  | unassigned126 (ac : AcNum) (m : AddrPart)
  /-- UNASSIGNED 127 (R582) -/
  | unassigned127 (ac : AcNum) (m : AddrPart)
  /-- UNASSIGNED 130 (R582) -/
  | unassigned130 (ac : AcNum) (m : AddrPart)
  /-- UNASSIGNED 131 (R582) -/
  | unassigned131 (ac : AcNum) (m : AddrPart)
  /-- UNASSIGNED 132 (R582) -/
  | unassigned132 (ac : AcNum) (m : AddrPart)
  /-- UNASSIGNED 140 (R582) -/
  | unassigned140 (ac : AcNum) (m : AddrPart)
  /-- UNASSIGNED 141 (R582) -/
  | unassigned141 (ac : AcNum) (m : AddrPart)
  /-- UNASSIGNED 142 (R582) -/
  | unassigned142 (ac : AcNum) (m : AddrPart)
  /-- UNASSIGNED 143 (R582) -/
  | unassigned143 (ac : AcNum) (m : AddrPart)
  /-- UNASSIGNED 144 (R582) -/
  | unassigned144 (ac : AcNum) (m : AddrPart)
  /-- UNASSIGNED 145 (R582) -/
  | unassigned145 (ac : AcNum) (m : AddrPart)
  /-- UNASSIGNED 146 (R582) -/
  | unassigned146 (ac : AcNum) (m : AddrPart)
  /-- UNASSIGNED 147 (R582) -/
  | unassigned147 (ac : AcNum) (m : AddrPart)
  /-- UNASSIGNED 150 (R582) -/
  | unassigned150 (ac : AcNum) (m : AddrPart)
  /-- UNASSIGNED 151 (R582) -/
  | unassigned151 (ac : AcNum) (m : AddrPart)
  /-- UNASSIGNED 152 (R582) -/
  | unassigned152 (ac : AcNum) (m : AddrPart)
  /-- UNASSIGNED 153 (R582) -/
  | unassigned153 (ac : AcNum) (m : AddrPart)
  /-- UNASSIGNED 154 (R582) -/
  | unassigned154 (ac : AcNum) (m : AddrPart)
  /-- UNASSIGNED 155 (R582) -/
  | unassigned155 (ac : AcNum) (m : AddrPart)
  /-- UNASSIGNED 156 (R582) -/
  | unassigned156 (ac : AcNum) (m : AddrPart)
  /-- UNASSIGNED 157 (R582) -/
  | unassigned157 (ac : AcNum) (m : AddrPart)
  /-- UNASSIGNED 160 (R582) -/
  | unassigned160 (ac : AcNum) (m : AddrPart)
  /-- UNASSIGNED 161 (R582) -/
  | unassigned161 (ac : AcNum) (m : AddrPart)
  /-- UNASSIGNED 162 (R582) -/
  | unassigned162 (ac : AcNum) (m : AddrPart)
  /-- UNASSIGNED 163 (R582) -/
  | unassigned163 (ac : AcNum) (m : AddrPart)
  /-- UNASSIGNED 164 (R582) -/
  | unassigned164 (ac : AcNum) (m : AddrPart)
  /-- UNASSIGNED 165 (R582) -/
  | unassigned165 (ac : AcNum) (m : AddrPart)
  /-- UNASSIGNED 166 (R582) -/
  | unassigned166 (ac : AcNum) (m : AddrPart)
  /-- UNASSIGNED 167 (R582) -/
  | unassigned167 (ac : AcNum) (m : AddrPart)
  /-- UNASSIGNED 170 (R582) -/
  | unassigned170 (ac : AcNum) (m : AddrPart)
  /-- UNASSIGNED 171 (R582) -/
  | unassigned171 (ac : AcNum) (m : AddrPart)
  /-- UNASSIGNED 172 (R582) -/
  | unassigned172 (ac : AcNum) (m : AddrPart)
  /-- UNASSIGNED 173 (R582) -/
  | unassigned173 (ac : AcNum) (m : AddrPart)
  /-- UNASSIGNED 174 (R582) -/
  | unassigned174 (ac : AcNum) (m : AddrPart)
  /-- UNASSIGNED 175 (R582) -/
  | unassigned175 (ac : AcNum) (m : AddrPart)
  /-- UNASSIGNED 176 (R582) -/
  | unassigned176 (ac : AcNum) (m : AddrPart)
  /-- UNASSIGNED 177 (R582) -/
  | unassigned177 (ac : AcNum) (m : AddrPart)
  /-- UNASSIGNED 247 (R582) -/
  | unassigned247 (ac : AcNum) (m : AddrPart)
  /-- UNASSIGNED 257 (R582) -/
  | unassigned257 (ac : AcNum) (m : AddrPart)
  -- I/O (spec/49_uuo_and_io.md)
  /-- BLKI (R592) -/
  | blki (dev : DevId) (m : AddrPart)
  /-- DATAI (R593) -/
  | datai (dev : DevId) (m : AddrPart)
  /-- BLKO (R594) -/
  | blko (dev : DevId) (m : AddrPart)
  /-- DATAO (R595) -/
  | datao (dev : DevId) (m : AddrPart)
  /-- CONO (R596) -/
  | cono (dev : DevId) (m : AddrPart)
  /-- CONI (R598) -/
  | coni (dev : DevId) (m : AddrPart)
  /-- CONSZ (R599) -/
  | consz (dev : DevId) (m : AddrPart)
  /-- CONSO (R600) -/
  | conso (dev : DevId) (m : AddrPart)
  deriving DecidableEq, Repr

end Sys2Proof
end

