-- ==== Sys2Proof/WellFormed.lean ====
section
/-!
DEFINITION. Which terms of `Instr` are instructions of the machine. Every field of every constructor may hold any
value of its type (R90: the decoder is total and no encoding is reserved) but one: opcode 0133 with `ac` = 0 is IBP,
so an ADJBP names an accumulator other than 0 (R91, R560).
-/

namespace Sys2Proof

/-- An instruction that some word encodes. -/
def Instr.wellFormed : Instr → Bool
  | .adjbp ac _ => ac != 0
  | _ => true

end Sys2Proof
end

