-- ==== Sys2Proof/Decode.lean ====
section
/-!
DEFINITION. Decoding and encoding. The word's fields are those of R80 and R81; the opcode map is R89 with the
sub-decodings of R91. Decoding is total (R90): an opcode below 0700 indexes `opcodeTable`, an opcode from 0700 on is
an I/O word (R82). The encoder is written from the same rules, constructor by constructor. Lean's kernel evaluates all
of it; `noncomputable` stands where compiled code would have to build an `Instr`, because Lean's runtime holds at most
244 constructors with fields in one type (Machine/Compiled.lean gives the compiled machine its own dispatch, proved equal).
-/

namespace Sys2Proof

/-- Bits 0-8: the opcode (R80). -/
def opField (w : Word) : BitVec 9 := w.extractLsb' 27 9

/-- Bits 9-12: the accumulator field (R80). -/
def acField (w : Word) : AcNum := w.extractLsb' 23 4

/-- Bits 3-9 of an I/O word: the device number (R81). -/
def devField (w : Word) : DevId := w.extractLsb' 26 7

/-- Bits 10-12 of an I/O word: the sub-operation (R81). -/
def subField (w : Word) : BitVec 3 := w.extractLsb' 23 3

/-- Bits 0-12 of a word: opcode and accumulator fields together, or the flags of a PC+flags word (R27). -/
def headField (w : Word) : BitVec 13 := w.extractLsb' 23 13

/-- Bits 13-35 of a word: I, X, Y (R80). -/
def AddrPart.ofWord (w : Word) : AddrPart :=
  { indirect := w.getLsbD 22, index := w.extractLsb' 18 4, disp := w.extractLsb' 0 18 }

/-- I, X, Y put together again (R80). -/
def AddrPart.bits (m : AddrPart) : BitVec 23 := BitVec.ofBool m.indirect ++ m.index ++ m.disp

/-- A word of the basic format (R80). -/
def basicWord (op : BitVec 9) (ac : AcNum) (m : AddrPart) : Word := op ++ ac ++ m.bits

/-- A word of the I/O format (R81, R590). -/
def ioWord (dev : DevId) (sub : BitVec 3) (m : AddrPart) : Word := (7#3) ++ dev ++ sub ++ m.bits

/-- Opcode 0254: the function codes of R91, in order. -/
noncomputable def jrstTable : List (AddrPart → Instr) :=
  [.jrst, .portal, .jrstf, .jrstFn3, .halt, .jrstFn5, .jrstFn6, .jrstFn7,
   .jrst10, .jrstFn11, .jen, .jrstFn13, .jrstFn14, .jrstFn15, .jrstFn16, .jrstFn17]

/-- Opcode 0254: JRST and its functions, chosen by the whole 4-bit `ac` field (R510). -/
noncomputable def decodeJrst (ac : AcNum) (m : AddrPart) : Instr := (jrstTable.getD ac.toNat .jrst) m

/-- Opcode 0133: IBP when `ac` = 0, else ADJBP (R91). -/
noncomputable def decodeByteAdjust (ac : AcNum) (m : AddrPart) : Instr := if ac = 0 then .ibp m else .adjbp ac m

/-- Opcodes 0000 to 0077 (R89, R90). -/
noncomputable def opcodes0 : List (AcNum → AddrPart → Instr) :=
  [.muuo, .luuo001, .luuo002, .luuo003, .luuo004, .luuo005, .luuo006, .luuo007,
   .luuo010, .luuo011, .luuo012, .luuo013, .luuo014, .luuo015, .luuo016, .luuo017,
   .luuo020, .luuo021, .luuo022, .luuo023, .luuo024, .luuo025, .luuo026, .luuo027,
   .luuo030, .luuo031, .luuo032, .luuo033, .luuo034, .luuo035, .luuo036, .luuo037,
   .muuo040, .muuo041, .muuo042, .muuo043, .muuo044, .muuo045, .muuo046, .muuo047,
   .muuo050, .muuo051, .muuo052, .muuo053, .muuo054, .muuo055, .muuo056, .muuo057,
   .muuo060, .muuo061, .muuo062, .muuo063, .muuo064, .muuo065, .muuo066, .muuo067,
   .muuo070, .muuo071, .muuo072, .muuo073, .muuo074, .muuo075, .muuo076, .muuo077]

/-- Opcodes 0100 to 0177 (R89, R90). -/
noncomputable def opcodes1 : List (AcNum → AddrPart → Instr) :=
  [.unassigned100, .unassigned101, .unassigned102, .unassigned103, .unassigned104, .adjsp, .unassigned106, .unassigned107,
   .unassigned110, .unassigned111, .unassigned112, .unassigned113, .dadd, .dsub, .dmul, .ddiv,
   .dmove, .dmovn, .unassigned122, .unassigned123, .dmovem, .dmovnm, .unassigned126, .unassigned127,
   .unassigned130, .unassigned131, .unassigned132, decodeByteAdjust, .ildb, .ldb, .idpb, .dpb,
   .unassigned140, .unassigned141, .unassigned142, .unassigned143, .unassigned144, .unassigned145, .unassigned146, .unassigned147,
   .unassigned150, .unassigned151, .unassigned152, .unassigned153, .unassigned154, .unassigned155, .unassigned156, .unassigned157,
   .unassigned160, .unassigned161, .unassigned162, .unassigned163, .unassigned164, .unassigned165, .unassigned166, .unassigned167,
   .unassigned170, .unassigned171, .unassigned172, .unassigned173, .unassigned174, .unassigned175, .unassigned176, .unassigned177]

/-- Opcodes 0200 to 0277 (R89, R90). -/
noncomputable def opcodes2 : List (AcNum → AddrPart → Instr) :=
  [.move, .movei, .movem, .moves, .movs, .movsi, .movsm, .movss,
   .movn, .movni, .movnm, .movns, .movm, .movmi, .movmm, .movms,
   .imul, .imuli, .imulm, .imulb, .mul, .muli, .mulm, .mulb,
   .idiv, .idivi, .idivm, .idivb, .div, .divi, .divm, .divb,
   .ash, .rot, .lsh, .jffo, .ashc, .rotc, .lshc, .unassigned247,
   .exch, .blt, .aobjp, .aobjn, decodeJrst, .jfcl, .xct, .unassigned257,
   .pushj, .push, .pop, .popj, .jsr, .jsp, .jsa, .jra,
   .add, .addi, .addm, .addb, .sub, .subi, .subm, .subb]

/-- Opcodes 0300 to 0377 (R89, R90). -/
noncomputable def opcodes3 : List (AcNum → AddrPart → Instr) :=
  [.cai, .cail, .caie, .caile, .caia, .caige, .cain, .caig,
   .cam, .caml, .came, .camle, .cama, .camge, .camn, .camg,
   .jump, .jumpl, .jumpe, .jumple, .jumpa, .jumpge, .jumpn, .jumpg,
   .skip, .skipl, .skipe, .skiple, .skipa, .skipge, .skipn, .skipg,
   .aoj, .aojl, .aoje, .aojle, .aoja, .aojge, .aojn, .aojg,
   .aos, .aosl, .aose, .aosle, .aosa, .aosge, .aosn, .aosg,
   .soj, .sojl, .soje, .sojle, .soja, .sojge, .sojn, .sojg,
   .sos, .sosl, .sose, .sosle, .sosa, .sosge, .sosn, .sosg]

/-- Opcodes 0400 to 0477 (R89, R90). -/
noncomputable def opcodes4 : List (AcNum → AddrPart → Instr) :=
  [.setz, .setzi, .setzm, .setzb, .and, .andi, .andm, .andb,
   .andca, .andcai, .andcam, .andcab, .setm, .setmi, .setmm, .setmb,
   .andcm, .andcmi, .andcmm, .andcmb, .seta, .setai, .setam, .setab,
   .xor, .xori, .xorm, .xorb, .ior, .iori, .iorm, .iorb,
   .andcb, .andcbi, .andcbm, .andcbb, .eqv, .eqvi, .eqvm, .eqvb,
   .setca, .setcai, .setcam, .setcab, .orca, .orcai, .orcam, .orcab,
   .setcm, .setcmi, .setcmm, .setcmb, .orcm, .orcmi, .orcmm, .orcmb,
   .orcb, .orcbi, .orcbm, .orcbb, .seto, .setoi, .setom, .setob]

/-- Opcodes 0500 to 0577 (R89, R90). -/
noncomputable def opcodes5 : List (AcNum → AddrPart → Instr) :=
  [.hll, .hlli, .hllm, .hlls, .hrl, .hrli, .hrlm, .hrls,
   .hllz, .hllzi, .hllzm, .hllzs, .hrlz, .hrlzi, .hrlzm, .hrlzs,
   .hllo, .hlloi, .hllom, .hllos, .hrlo, .hrloi, .hrlom, .hrlos,
   .hlle, .hllei, .hllem, .hlles, .hrle, .hrlei, .hrlem, .hrles,
   .hrr, .hrri, .hrrm, .hrrs, .hlr, .hlri, .hlrm, .hlrs,
   .hrrz, .hrrzi, .hrrzm, .hrrzs, .hlrz, .hlrzi, .hlrzm, .hlrzs,
   .hrro, .hrroi, .hrrom, .hrros, .hlro, .hlroi, .hlrom, .hlros,
   .hrre, .hrrei, .hrrem, .hrres, .hlre, .hlrei, .hlrem, .hlres]

/-- Opcodes 0600 to 0677 (R89, R90). -/
noncomputable def opcodes6 : List (AcNum → AddrPart → Instr) :=
  [.trn, .tln, .trne, .tlne, .trna, .tlna, .trnn, .tlnn,
   .tdn, .tsn, .tdne, .tsne, .tdna, .tsna, .tdnn, .tsnn,
   .trz, .tlz, .trze, .tlze, .trza, .tlza, .trzn, .tlzn,
   .tdz, .tsz, .tdze, .tsze, .tdza, .tsza, .tdzn, .tszn,
   .trc, .tlc, .trce, .tlce, .trca, .tlca, .trcn, .tlcn,
   .tdc, .tsc, .tdce, .tsce, .tdca, .tsca, .tdcn, .tscn,
   .tro, .tlo, .troe, .tloe, .troa, .tloa, .tron, .tlon,
   .tdo, .tso, .tdoe, .tsoe, .tdoa, .tsoa, .tdon, .tson]

/-- The dispatch table of R96 for opcodes 000 to 677. -/
noncomputable def opcodeTable : List (AcNum → AddrPart → Instr) :=
  opcodes0 ++ opcodes1 ++ opcodes2 ++ opcodes3 ++ opcodes4 ++ opcodes5 ++ opcodes6

/-- The I/O instructions by sub-operation code (R590). -/
noncomputable def ioTable : List (DevId → AddrPart → Instr) :=
  [.blki, .datai, .blko, .datao, .cono, .coni, .consz, .conso]

/-- An I/O word: the sub-operation chooses the instruction (R590). -/
noncomputable def decodeIo (sub : BitVec 3) (dev : DevId) (m : AddrPart) : Instr := (ioTable.getD sub.toNat .conso) dev m

/-- The decoder: total on every 36-bit word (R82, R90). Opcodes past the table are 0700 to 0777. -/
noncomputable def decode (w : Word) : Instr :=
  match opcodeTable[(opField w).toNat]? with
  | some f => f (acField w) (AddrPart.ofWord w)
  | none => decodeIo (subField w) (devField w) (AddrPart.ofWord w)

/-- The instruction the decoder reads from an instruction given as a number. Every instruction is one 36-bit word
(R80), so `nbits` chooses nothing, and a number of more than 36 bits is no instruction word. -/
noncomputable def decodeTableWord (_nbits w : Nat) : Option Instr :=
  if w < 2 ^ 36 then some (decode (BitVec.ofNat 36 w)) else none

/-- The encoder: the word of each instruction, from R80, R81, R89, R91 and R590. -/
def encode : Instr → Word
  | .move ac m => basicWord 0o200 ac m
  | .movei ac m => basicWord 0o201 ac m
  | .movem ac m => basicWord 0o202 ac m
  | .moves ac m => basicWord 0o203 ac m
  | .movs ac m => basicWord 0o204 ac m
  | .movsi ac m => basicWord 0o205 ac m
  | .movsm ac m => basicWord 0o206 ac m
  | .movss ac m => basicWord 0o207 ac m
  | .movn ac m => basicWord 0o210 ac m
  | .movni ac m => basicWord 0o211 ac m
  | .movnm ac m => basicWord 0o212 ac m
  | .movns ac m => basicWord 0o213 ac m
  | .movm ac m => basicWord 0o214 ac m
  | .movmi ac m => basicWord 0o215 ac m
  | .movmm ac m => basicWord 0o216 ac m
  | .movms ac m => basicWord 0o217 ac m
  | .exch ac m => basicWord 0o250 ac m
  | .blt ac m => basicWord 0o251 ac m
  | .dmove ac m => basicWord 0o120 ac m
  | .dmovn ac m => basicWord 0o121 ac m
  | .dmovem ac m => basicWord 0o124 ac m
  | .dmovnm ac m => basicWord 0o125 ac m
  | .add ac m => basicWord 0o270 ac m
  | .addi ac m => basicWord 0o271 ac m
  | .addm ac m => basicWord 0o272 ac m
  | .addb ac m => basicWord 0o273 ac m
  | .sub ac m => basicWord 0o274 ac m
  | .subi ac m => basicWord 0o275 ac m
  | .subm ac m => basicWord 0o276 ac m
  | .subb ac m => basicWord 0o277 ac m
  | .imul ac m => basicWord 0o220 ac m
  | .imuli ac m => basicWord 0o221 ac m
  | .imulm ac m => basicWord 0o222 ac m
  | .imulb ac m => basicWord 0o223 ac m
  | .mul ac m => basicWord 0o224 ac m
  | .muli ac m => basicWord 0o225 ac m
  | .mulm ac m => basicWord 0o226 ac m
  | .mulb ac m => basicWord 0o227 ac m
  | .idiv ac m => basicWord 0o230 ac m
  | .idivi ac m => basicWord 0o231 ac m
  | .idivm ac m => basicWord 0o232 ac m
  | .idivb ac m => basicWord 0o233 ac m
  | .div ac m => basicWord 0o234 ac m
  | .divi ac m => basicWord 0o235 ac m
  | .divm ac m => basicWord 0o236 ac m
  | .divb ac m => basicWord 0o237 ac m
  | .dadd ac m => basicWord 0o114 ac m
  | .dsub ac m => basicWord 0o115 ac m
  | .dmul ac m => basicWord 0o116 ac m
  | .ddiv ac m => basicWord 0o117 ac m
  | .setz ac m => basicWord 0o400 ac m
  | .setzi ac m => basicWord 0o401 ac m
  | .setzm ac m => basicWord 0o402 ac m
  | .setzb ac m => basicWord 0o403 ac m
  | .and ac m => basicWord 0o404 ac m
  | .andi ac m => basicWord 0o405 ac m
  | .andm ac m => basicWord 0o406 ac m
  | .andb ac m => basicWord 0o407 ac m
  | .andca ac m => basicWord 0o410 ac m
  | .andcai ac m => basicWord 0o411 ac m
  | .andcam ac m => basicWord 0o412 ac m
  | .andcab ac m => basicWord 0o413 ac m
  | .setm ac m => basicWord 0o414 ac m
  | .setmi ac m => basicWord 0o415 ac m
  | .setmm ac m => basicWord 0o416 ac m
  | .setmb ac m => basicWord 0o417 ac m
  | .andcm ac m => basicWord 0o420 ac m
  | .andcmi ac m => basicWord 0o421 ac m
  | .andcmm ac m => basicWord 0o422 ac m
  | .andcmb ac m => basicWord 0o423 ac m
  | .seta ac m => basicWord 0o424 ac m
  | .setai ac m => basicWord 0o425 ac m
  | .setam ac m => basicWord 0o426 ac m
  | .setab ac m => basicWord 0o427 ac m
  | .xor ac m => basicWord 0o430 ac m
  | .xori ac m => basicWord 0o431 ac m
  | .xorm ac m => basicWord 0o432 ac m
  | .xorb ac m => basicWord 0o433 ac m
  | .ior ac m => basicWord 0o434 ac m
  | .iori ac m => basicWord 0o435 ac m
  | .iorm ac m => basicWord 0o436 ac m
  | .iorb ac m => basicWord 0o437 ac m
  | .andcb ac m => basicWord 0o440 ac m
  | .andcbi ac m => basicWord 0o441 ac m
  | .andcbm ac m => basicWord 0o442 ac m
  | .andcbb ac m => basicWord 0o443 ac m
  | .eqv ac m => basicWord 0o444 ac m
  | .eqvi ac m => basicWord 0o445 ac m
  | .eqvm ac m => basicWord 0o446 ac m
  | .eqvb ac m => basicWord 0o447 ac m
  | .setca ac m => basicWord 0o450 ac m
  | .setcai ac m => basicWord 0o451 ac m
  | .setcam ac m => basicWord 0o452 ac m
  | .setcab ac m => basicWord 0o453 ac m
  | .orca ac m => basicWord 0o454 ac m
  | .orcai ac m => basicWord 0o455 ac m
  | .orcam ac m => basicWord 0o456 ac m
  | .orcab ac m => basicWord 0o457 ac m
  | .setcm ac m => basicWord 0o460 ac m
  | .setcmi ac m => basicWord 0o461 ac m
  | .setcmm ac m => basicWord 0o462 ac m
  | .setcmb ac m => basicWord 0o463 ac m
  | .orcm ac m => basicWord 0o464 ac m
  | .orcmi ac m => basicWord 0o465 ac m
  | .orcmm ac m => basicWord 0o466 ac m
  | .orcmb ac m => basicWord 0o467 ac m
  | .orcb ac m => basicWord 0o470 ac m
  | .orcbi ac m => basicWord 0o471 ac m
  | .orcbm ac m => basicWord 0o472 ac m
  | .orcbb ac m => basicWord 0o473 ac m
  | .seto ac m => basicWord 0o474 ac m
  | .setoi ac m => basicWord 0o475 ac m
  | .setom ac m => basicWord 0o476 ac m
  | .setob ac m => basicWord 0o477 ac m
  | .ash ac m => basicWord 0o240 ac m
  | .rot ac m => basicWord 0o241 ac m
  | .lsh ac m => basicWord 0o242 ac m
  | .ashc ac m => basicWord 0o244 ac m
  | .rotc ac m => basicWord 0o245 ac m
  | .lshc ac m => basicWord 0o246 ac m
  | .cai ac m => basicWord 0o300 ac m
  | .cail ac m => basicWord 0o301 ac m
  | .caie ac m => basicWord 0o302 ac m
  | .caile ac m => basicWord 0o303 ac m
  | .caia ac m => basicWord 0o304 ac m
  | .caige ac m => basicWord 0o305 ac m
  | .cain ac m => basicWord 0o306 ac m
  | .caig ac m => basicWord 0o307 ac m
  | .cam ac m => basicWord 0o310 ac m
  | .caml ac m => basicWord 0o311 ac m
  | .came ac m => basicWord 0o312 ac m
  | .camle ac m => basicWord 0o313 ac m
  | .cama ac m => basicWord 0o314 ac m
  | .camge ac m => basicWord 0o315 ac m
  | .camn ac m => basicWord 0o316 ac m
  | .camg ac m => basicWord 0o317 ac m
  | .jump ac m => basicWord 0o320 ac m
  | .jumpl ac m => basicWord 0o321 ac m
  | .jumpe ac m => basicWord 0o322 ac m
  | .jumple ac m => basicWord 0o323 ac m
  | .jumpa ac m => basicWord 0o324 ac m
  | .jumpge ac m => basicWord 0o325 ac m
  | .jumpn ac m => basicWord 0o326 ac m
  | .jumpg ac m => basicWord 0o327 ac m
  | .skip ac m => basicWord 0o330 ac m
  | .skipl ac m => basicWord 0o331 ac m
  | .skipe ac m => basicWord 0o332 ac m
  | .skiple ac m => basicWord 0o333 ac m
  | .skipa ac m => basicWord 0o334 ac m
  | .skipge ac m => basicWord 0o335 ac m
  | .skipn ac m => basicWord 0o336 ac m
  | .skipg ac m => basicWord 0o337 ac m
  | .aoj ac m => basicWord 0o340 ac m
  | .aojl ac m => basicWord 0o341 ac m
  | .aoje ac m => basicWord 0o342 ac m
  | .aojle ac m => basicWord 0o343 ac m
  | .aoja ac m => basicWord 0o344 ac m
  | .aojge ac m => basicWord 0o345 ac m
  | .aojn ac m => basicWord 0o346 ac m
  | .aojg ac m => basicWord 0o347 ac m
  | .aos ac m => basicWord 0o350 ac m
  | .aosl ac m => basicWord 0o351 ac m
  | .aose ac m => basicWord 0o352 ac m
  | .aosle ac m => basicWord 0o353 ac m
  | .aosa ac m => basicWord 0o354 ac m
  | .aosge ac m => basicWord 0o355 ac m
  | .aosn ac m => basicWord 0o356 ac m
  | .aosg ac m => basicWord 0o357 ac m
  | .soj ac m => basicWord 0o360 ac m
  | .sojl ac m => basicWord 0o361 ac m
  | .soje ac m => basicWord 0o362 ac m
  | .sojle ac m => basicWord 0o363 ac m
  | .soja ac m => basicWord 0o364 ac m
  | .sojge ac m => basicWord 0o365 ac m
  | .sojn ac m => basicWord 0o366 ac m
  | .sojg ac m => basicWord 0o367 ac m
  | .sos ac m => basicWord 0o370 ac m
  | .sosl ac m => basicWord 0o371 ac m
  | .sose ac m => basicWord 0o372 ac m
  | .sosle ac m => basicWord 0o373 ac m
  | .sosa ac m => basicWord 0o374 ac m
  | .sosge ac m => basicWord 0o375 ac m
  | .sosn ac m => basicWord 0o376 ac m
  | .sosg ac m => basicWord 0o377 ac m
  | .aobjp ac m => basicWord 0o252 ac m
  | .aobjn ac m => basicWord 0o253 ac m
  | .jffo ac m => basicWord 0o243 ac m
  | .hll ac m => basicWord 0o500 ac m
  | .hlli ac m => basicWord 0o501 ac m
  | .hllm ac m => basicWord 0o502 ac m
  | .hlls ac m => basicWord 0o503 ac m
  | .hrl ac m => basicWord 0o504 ac m
  | .hrli ac m => basicWord 0o505 ac m
  | .hrlm ac m => basicWord 0o506 ac m
  | .hrls ac m => basicWord 0o507 ac m
  | .hllz ac m => basicWord 0o510 ac m
  | .hllzi ac m => basicWord 0o511 ac m
  | .hllzm ac m => basicWord 0o512 ac m
  | .hllzs ac m => basicWord 0o513 ac m
  | .hrlz ac m => basicWord 0o514 ac m
  | .hrlzi ac m => basicWord 0o515 ac m
  | .hrlzm ac m => basicWord 0o516 ac m
  | .hrlzs ac m => basicWord 0o517 ac m
  | .hllo ac m => basicWord 0o520 ac m
  | .hlloi ac m => basicWord 0o521 ac m
  | .hllom ac m => basicWord 0o522 ac m
  | .hllos ac m => basicWord 0o523 ac m
  | .hrlo ac m => basicWord 0o524 ac m
  | .hrloi ac m => basicWord 0o525 ac m
  | .hrlom ac m => basicWord 0o526 ac m
  | .hrlos ac m => basicWord 0o527 ac m
  | .hlle ac m => basicWord 0o530 ac m
  | .hllei ac m => basicWord 0o531 ac m
  | .hllem ac m => basicWord 0o532 ac m
  | .hlles ac m => basicWord 0o533 ac m
  | .hrle ac m => basicWord 0o534 ac m
  | .hrlei ac m => basicWord 0o535 ac m
  | .hrlem ac m => basicWord 0o536 ac m
  | .hrles ac m => basicWord 0o537 ac m
  | .hrr ac m => basicWord 0o540 ac m
  | .hrri ac m => basicWord 0o541 ac m
  | .hrrm ac m => basicWord 0o542 ac m
  | .hrrs ac m => basicWord 0o543 ac m
  | .hlr ac m => basicWord 0o544 ac m
  | .hlri ac m => basicWord 0o545 ac m
  | .hlrm ac m => basicWord 0o546 ac m
  | .hlrs ac m => basicWord 0o547 ac m
  | .hrrz ac m => basicWord 0o550 ac m
  | .hrrzi ac m => basicWord 0o551 ac m
  | .hrrzm ac m => basicWord 0o552 ac m
  | .hrrzs ac m => basicWord 0o553 ac m
  | .hlrz ac m => basicWord 0o554 ac m
  | .hlrzi ac m => basicWord 0o555 ac m
  | .hlrzm ac m => basicWord 0o556 ac m
  | .hlrzs ac m => basicWord 0o557 ac m
  | .hrro ac m => basicWord 0o560 ac m
  | .hrroi ac m => basicWord 0o561 ac m
  | .hrrom ac m => basicWord 0o562 ac m
  | .hrros ac m => basicWord 0o563 ac m
  | .hlro ac m => basicWord 0o564 ac m
  | .hlroi ac m => basicWord 0o565 ac m
  | .hlrom ac m => basicWord 0o566 ac m
  | .hlros ac m => basicWord 0o567 ac m
  | .hrre ac m => basicWord 0o570 ac m
  | .hrrei ac m => basicWord 0o571 ac m
  | .hrrem ac m => basicWord 0o572 ac m
  | .hrres ac m => basicWord 0o573 ac m
  | .hlre ac m => basicWord 0o574 ac m
  | .hlrei ac m => basicWord 0o575 ac m
  | .hlrem ac m => basicWord 0o576 ac m
  | .hlres ac m => basicWord 0o577 ac m
  | .trn ac m => basicWord 0o600 ac m
  | .tln ac m => basicWord 0o601 ac m
  | .trne ac m => basicWord 0o602 ac m
  | .tlne ac m => basicWord 0o603 ac m
  | .trna ac m => basicWord 0o604 ac m
  | .tlna ac m => basicWord 0o605 ac m
  | .trnn ac m => basicWord 0o606 ac m
  | .tlnn ac m => basicWord 0o607 ac m
  | .tdn ac m => basicWord 0o610 ac m
  | .tsn ac m => basicWord 0o611 ac m
  | .tdne ac m => basicWord 0o612 ac m
  | .tsne ac m => basicWord 0o613 ac m
  | .tdna ac m => basicWord 0o614 ac m
  | .tsna ac m => basicWord 0o615 ac m
  | .tdnn ac m => basicWord 0o616 ac m
  | .tsnn ac m => basicWord 0o617 ac m
  | .trz ac m => basicWord 0o620 ac m
  | .tlz ac m => basicWord 0o621 ac m
  | .trze ac m => basicWord 0o622 ac m
  | .tlze ac m => basicWord 0o623 ac m
  | .trza ac m => basicWord 0o624 ac m
  | .tlza ac m => basicWord 0o625 ac m
  | .trzn ac m => basicWord 0o626 ac m
  | .tlzn ac m => basicWord 0o627 ac m
  | .tdz ac m => basicWord 0o630 ac m
  | .tsz ac m => basicWord 0o631 ac m
  | .tdze ac m => basicWord 0o632 ac m
  | .tsze ac m => basicWord 0o633 ac m
  | .tdza ac m => basicWord 0o634 ac m
  | .tsza ac m => basicWord 0o635 ac m
  | .tdzn ac m => basicWord 0o636 ac m
  | .tszn ac m => basicWord 0o637 ac m
  | .trc ac m => basicWord 0o640 ac m
  | .tlc ac m => basicWord 0o641 ac m
  | .trce ac m => basicWord 0o642 ac m
  | .tlce ac m => basicWord 0o643 ac m
  | .trca ac m => basicWord 0o644 ac m
  | .tlca ac m => basicWord 0o645 ac m
  | .trcn ac m => basicWord 0o646 ac m
  | .tlcn ac m => basicWord 0o647 ac m
  | .tdc ac m => basicWord 0o650 ac m
  | .tsc ac m => basicWord 0o651 ac m
  | .tdce ac m => basicWord 0o652 ac m
  | .tsce ac m => basicWord 0o653 ac m
  | .tdca ac m => basicWord 0o654 ac m
  | .tsca ac m => basicWord 0o655 ac m
  | .tdcn ac m => basicWord 0o656 ac m
  | .tscn ac m => basicWord 0o657 ac m
  | .tro ac m => basicWord 0o660 ac m
  | .tlo ac m => basicWord 0o661 ac m
  | .troe ac m => basicWord 0o662 ac m
  | .tloe ac m => basicWord 0o663 ac m
  | .troa ac m => basicWord 0o664 ac m
  | .tloa ac m => basicWord 0o665 ac m
  | .tron ac m => basicWord 0o666 ac m
  | .tlon ac m => basicWord 0o667 ac m
  | .tdo ac m => basicWord 0o670 ac m
  | .tso ac m => basicWord 0o671 ac m
  | .tdoe ac m => basicWord 0o672 ac m
  | .tsoe ac m => basicWord 0o673 ac m
  | .tdoa ac m => basicWord 0o674 ac m
  | .tsoa ac m => basicWord 0o675 ac m
  | .tdon ac m => basicWord 0o676 ac m
  | .tson ac m => basicWord 0o677 ac m
  | .jrst m => basicWord 0o254 0o00 m
  | .portal m => basicWord 0o254 0o01 m
  | .jrstf m => basicWord 0o254 0o02 m
  | .halt m => basicWord 0o254 0o04 m
  | .jrst10 m => basicWord 0o254 0o10 m
  | .jen m => basicWord 0o254 0o12 m
  | .jrstFn3 m => basicWord 0o254 0o03 m
  | .jrstFn5 m => basicWord 0o254 0o05 m
  | .jrstFn6 m => basicWord 0o254 0o06 m
  | .jrstFn7 m => basicWord 0o254 0o07 m
  | .jrstFn11 m => basicWord 0o254 0o11 m
  | .jrstFn13 m => basicWord 0o254 0o13 m
  | .jrstFn14 m => basicWord 0o254 0o14 m
  | .jrstFn15 m => basicWord 0o254 0o15 m
  | .jrstFn16 m => basicWord 0o254 0o16 m
  | .jrstFn17 m => basicWord 0o254 0o17 m
  | .jfcl ac m => basicWord 0o255 ac m
  | .xct ac m => basicWord 0o256 ac m
  | .jsr ac m => basicWord 0o264 ac m
  | .jsp ac m => basicWord 0o265 ac m
  | .jsa ac m => basicWord 0o266 ac m
  | .jra ac m => basicWord 0o267 ac m
  | .pushj ac m => basicWord 0o260 ac m
  | .popj ac m => basicWord 0o263 ac m
  | .push ac m => basicWord 0o261 ac m
  | .pop ac m => basicWord 0o262 ac m
  | .adjsp ac m => basicWord 0o105 ac m
  | .ibp m => basicWord 0o133 0 m
  | .adjbp ac m => basicWord 0o133 ac m
  | .ildb ac m => basicWord 0o134 ac m
  | .ldb ac m => basicWord 0o135 ac m
  | .idpb ac m => basicWord 0o136 ac m
  | .dpb ac m => basicWord 0o137 ac m
  | .muuo ac m => basicWord 0o000 ac m
  | .luuo001 ac m => basicWord 0o001 ac m
  | .luuo002 ac m => basicWord 0o002 ac m
  | .luuo003 ac m => basicWord 0o003 ac m
  | .luuo004 ac m => basicWord 0o004 ac m
  | .luuo005 ac m => basicWord 0o005 ac m
  | .luuo006 ac m => basicWord 0o006 ac m
  | .luuo007 ac m => basicWord 0o007 ac m
  | .luuo010 ac m => basicWord 0o010 ac m
  | .luuo011 ac m => basicWord 0o011 ac m
  | .luuo012 ac m => basicWord 0o012 ac m
  | .luuo013 ac m => basicWord 0o013 ac m
  | .luuo014 ac m => basicWord 0o014 ac m
  | .luuo015 ac m => basicWord 0o015 ac m
  | .luuo016 ac m => basicWord 0o016 ac m
  | .luuo017 ac m => basicWord 0o017 ac m
  | .luuo020 ac m => basicWord 0o020 ac m
  | .luuo021 ac m => basicWord 0o021 ac m
  | .luuo022 ac m => basicWord 0o022 ac m
  | .luuo023 ac m => basicWord 0o023 ac m
  | .luuo024 ac m => basicWord 0o024 ac m
  | .luuo025 ac m => basicWord 0o025 ac m
  | .luuo026 ac m => basicWord 0o026 ac m
  | .luuo027 ac m => basicWord 0o027 ac m
  | .luuo030 ac m => basicWord 0o030 ac m
  | .luuo031 ac m => basicWord 0o031 ac m
  | .luuo032 ac m => basicWord 0o032 ac m
  | .luuo033 ac m => basicWord 0o033 ac m
  | .luuo034 ac m => basicWord 0o034 ac m
  | .luuo035 ac m => basicWord 0o035 ac m
  | .luuo036 ac m => basicWord 0o036 ac m
  | .luuo037 ac m => basicWord 0o037 ac m
  | .muuo040 ac m => basicWord 0o040 ac m
  | .muuo041 ac m => basicWord 0o041 ac m
  | .muuo042 ac m => basicWord 0o042 ac m
  | .muuo043 ac m => basicWord 0o043 ac m
  | .muuo044 ac m => basicWord 0o044 ac m
  | .muuo045 ac m => basicWord 0o045 ac m
  | .muuo046 ac m => basicWord 0o046 ac m
  | .muuo047 ac m => basicWord 0o047 ac m
  | .muuo050 ac m => basicWord 0o050 ac m
  | .muuo051 ac m => basicWord 0o051 ac m
  | .muuo052 ac m => basicWord 0o052 ac m
  | .muuo053 ac m => basicWord 0o053 ac m
  | .muuo054 ac m => basicWord 0o054 ac m
  | .muuo055 ac m => basicWord 0o055 ac m
  | .muuo056 ac m => basicWord 0o056 ac m
  | .muuo057 ac m => basicWord 0o057 ac m
  | .muuo060 ac m => basicWord 0o060 ac m
  | .muuo061 ac m => basicWord 0o061 ac m
  | .muuo062 ac m => basicWord 0o062 ac m
  | .muuo063 ac m => basicWord 0o063 ac m
  | .muuo064 ac m => basicWord 0o064 ac m
  | .muuo065 ac m => basicWord 0o065 ac m
  | .muuo066 ac m => basicWord 0o066 ac m
  | .muuo067 ac m => basicWord 0o067 ac m
  | .muuo070 ac m => basicWord 0o070 ac m
  | .muuo071 ac m => basicWord 0o071 ac m
  | .muuo072 ac m => basicWord 0o072 ac m
  | .muuo073 ac m => basicWord 0o073 ac m
  | .muuo074 ac m => basicWord 0o074 ac m
  | .muuo075 ac m => basicWord 0o075 ac m
  | .muuo076 ac m => basicWord 0o076 ac m
  | .muuo077 ac m => basicWord 0o077 ac m
  | .unassigned100 ac m => basicWord 0o100 ac m
  | .unassigned101 ac m => basicWord 0o101 ac m
  | .unassigned102 ac m => basicWord 0o102 ac m
  | .unassigned103 ac m => basicWord 0o103 ac m
  | .unassigned104 ac m => basicWord 0o104 ac m
  | .unassigned106 ac m => basicWord 0o106 ac m
  | .unassigned107 ac m => basicWord 0o107 ac m
  | .unassigned110 ac m => basicWord 0o110 ac m
  | .unassigned111 ac m => basicWord 0o111 ac m
  | .unassigned112 ac m => basicWord 0o112 ac m
  | .unassigned113 ac m => basicWord 0o113 ac m
  | .unassigned122 ac m => basicWord 0o122 ac m
  | .unassigned123 ac m => basicWord 0o123 ac m
  | .unassigned126 ac m => basicWord 0o126 ac m
  | .unassigned127 ac m => basicWord 0o127 ac m
  | .unassigned130 ac m => basicWord 0o130 ac m
  | .unassigned131 ac m => basicWord 0o131 ac m
  | .unassigned132 ac m => basicWord 0o132 ac m
  | .unassigned140 ac m => basicWord 0o140 ac m
  | .unassigned141 ac m => basicWord 0o141 ac m
  | .unassigned142 ac m => basicWord 0o142 ac m
  | .unassigned143 ac m => basicWord 0o143 ac m
  | .unassigned144 ac m => basicWord 0o144 ac m
  | .unassigned145 ac m => basicWord 0o145 ac m
  | .unassigned146 ac m => basicWord 0o146 ac m
  | .unassigned147 ac m => basicWord 0o147 ac m
  | .unassigned150 ac m => basicWord 0o150 ac m
  | .unassigned151 ac m => basicWord 0o151 ac m
  | .unassigned152 ac m => basicWord 0o152 ac m
  | .unassigned153 ac m => basicWord 0o153 ac m
  | .unassigned154 ac m => basicWord 0o154 ac m
  | .unassigned155 ac m => basicWord 0o155 ac m
  | .unassigned156 ac m => basicWord 0o156 ac m
  | .unassigned157 ac m => basicWord 0o157 ac m
  | .unassigned160 ac m => basicWord 0o160 ac m
  | .unassigned161 ac m => basicWord 0o161 ac m
  | .unassigned162 ac m => basicWord 0o162 ac m
  | .unassigned163 ac m => basicWord 0o163 ac m
  | .unassigned164 ac m => basicWord 0o164 ac m
  | .unassigned165 ac m => basicWord 0o165 ac m
  | .unassigned166 ac m => basicWord 0o166 ac m
  | .unassigned167 ac m => basicWord 0o167 ac m
  | .unassigned170 ac m => basicWord 0o170 ac m
  | .unassigned171 ac m => basicWord 0o171 ac m
  | .unassigned172 ac m => basicWord 0o172 ac m
  | .unassigned173 ac m => basicWord 0o173 ac m
  | .unassigned174 ac m => basicWord 0o174 ac m
  | .unassigned175 ac m => basicWord 0o175 ac m
  | .unassigned176 ac m => basicWord 0o176 ac m
  | .unassigned177 ac m => basicWord 0o177 ac m
  | .unassigned247 ac m => basicWord 0o247 ac m
  | .unassigned257 ac m => basicWord 0o257 ac m
  | .blki dev m => ioWord dev 0 m
  | .datai dev m => ioWord dev 1 m
  | .blko dev m => ioWord dev 2 m
  | .datao dev m => ioWord dev 3 m
  | .cono dev m => ioWord dev 4 m
  | .coni dev m => ioWord dev 5 m
  | .consz dev m => ioWord dev 6 m
  | .conso dev m => ioWord dev 7 m

/-- Bits 0-12 of an instruction's word: what an MUUO or LUUO records of it, and the flags a JRSTF with neither
indexing nor indirection would take (R581, R513). -/
def Instr.head (i : Instr) : BitVec 13 := headField (encode i)

end Sys2Proof
end

