-- ==== Sys2Proof/Machine/State.lean ====
section
/-!
DEFINITION. The state of the KM10 CORE: every piece of state R20 to R36 give it, as plain data, its value after reset
(R37), and the reasons a step can stop (R676).
-/

namespace Sys2Proof.Machine

/-- An interrupt level, 1 the most urgent (R31, R650). -/
inductive Level where
  | l1 | l2 | l3 | l4 | l5 | l6 | l7
  deriving DecidableEq, Repr

/-- What diverted the fetch of an exception cycle (R35, R624). -/
inductive ExceptionKind where
  | trap | interrupt
  deriving DecidableEq, Repr

/-- The exception cycle in progress: its kind and `exceptionPC`, the interrupted PC (R24, R622). -/
structure ExceptionCycle where
  kind : ExceptionKind
  pc : VAddr
  deriving DecidableEq, Repr

/-- The interrupt controller's registers (R31). Level L is the bit of weight 2^(7-L) of a mask. -/
structure InterruptController where
  /-- `PI.on` -/
  turnedOn : Bool
  /-- `PI.enabled` -/
  enabled : BitVec 7
  /-- `PI.held` -/
  held : BitVec 7
  /-- `PI.request` -/
  request : BitVec 7
  /-- `PI.current`, none when no level is in service -/
  current : Option Level
  deriving DecidableEq, Repr

/-- A registry entry (R32). The controller's own entry, id 1, is not in the list: the CORE handles it (R591). -/
structure Device where
  id : DevId
  /-- the assigned level, 0 for none -/
  level : BitVec 3
  /-- the device is requesting an interrupt -/
  pending : Bool
  /-- the capability set: the operation with sub-operation code k is the bit of weight 2^k (log 18) -/
  caps : BitVec 8
  deriving DecidableEq, Repr

/-- The machine's state. Two fields live for one cycle only (`exceptionCycle`, `redispatch`: R35, log 17), one is an
argument that nothing writes (`params`: R7, log 1), and one is the model's own (`ioLog`: log 11). -/
structure State where
  /-- the accumulators, register r of bank b at index 16 b + r (R20) -/
  acs : Vector Word 128
  /-- `ACBLK`, the active bank (R21) -/
  acblk : BitVec 3
  /-- memory: address and word, addresses strictly rising, no listed word equal to `unlistedWord` (R50) -/
  mem : List (Nat × Word)
  /-- `PC` (R23) -/
  pc : VAddr
  /-- `FLAGS`, bit 0 (AOV) of weight 2^12 (R25) -/
  flags : BitVec 13
  /-- `PAGING_EN` (R29) -/
  pagingEn : Bool
  /-- `RUNNING` (R30) -/
  running : Bool
  /-- the interrupt controller (R31) -/
  pi : InterruptController
  /-- the device registry, ids strictly rising, without the controller (R32) -/
  devices : List Device
  /-- `ICOUNT` (R33) -/
  icount : Nat
  /-- `inException` and `exceptionPC` of the cycle in progress (R24, R35, R624) -/
  exceptionCycle : Option ExceptionCycle
  /-- the re-dispatch disposition, the word to dispatch next in this cycle (R630) -/
  redispatch : Option Word
  /-- transactions and diagnostic events of the device interface, newest first (R597, R668; log 11) -/
  ioLog : List IoEvent
  /-- the parameters (R7) -/
  params : Params
  deriving DecidableEq, Repr

/-- What a memory word that nothing has written reads as (log 4: R37 leaves it unspecified). -/
def unlistedWord : Word := 0

/-- The model faults of R676: the machine stops and no state is given. Raising one is safe: no claim about a next
state follows from it. -/
inductive Fault where
  /-- Effective-address resolution would fetch more than `MAX_INDIRECT` indirect words (R84); raised by the resolver. Safe. -/
  | addressLoop
  /-- More than `MAX_XCT` re-dispatches in one cycle (R625); raised by the cycle. Safe. -/
  | xctLoop
  /-- An access at an address of 16 or more that is not below `MEMWORDS` (R55); raised by every memory access. Safe. -/
  | nonexistentMemory (a : VAddr)
  /-- A byte pointer whose first six bits are 077 (R550); raised by the byte instructions. Safe. -/
  | badBytePointer
  /-- An unassigned opcode or JRST function under `UNASSIGNED_POLICY` = refuse (R582). Safe. -/
  | unassignedOpcode (head : BitVec 13)
  /-- I/O to a device with no registry entry under `IO_POLICY` = fault (R597). Safe. -/
  | noSuchDevice (dev : DevId)
  /-- I/O for an operation outside the device's capabilities under `IO_POLICY` = fault (R597). Safe. -/
  | ioNotImplemented (dev : DevId) (op : IoOp)
  deriving DecidableEq, Repr

/-- Why an instruction has no meaning. -/
inductive Refusal where
  /-- The instruction's arm has no meaning yet; raised by `exec` only. Safe. No arm of this model raises it. -/
  | notModelled (mnemonic : String)
  deriving DecidableEq, Repr

/-- The outcome of one step or one instruction. -/
abbrev Result := Host.Outcome State Fault Refusal

/-- The parameters after reset (log 1): R7 gives the last five; R55 allows the memory size; the two bases are open. -/
def Params.atReset : Params where
  memWords := 2 ^ 30
  eptBase := 0o20000
  uptBase := 0o10000
  maxIndirect := 64
  maxXct := 64
  ioPolicy := .continue
  blkSkipOnCarry := true
  unassignedPolicy := .muuo

/-- The machine after reset, that is after construction (R37, R680): exec mode, no trap pending, traps not delivered,
interrupt system off, not running. Accumulators (log 2), PC (log 3), memory (log 4), the registry (log 5) and the
parameters (log 1) hold values that the spec leaves open. -/
def State.reset : State where
  acs := Vector.replicate 128 0
  acblk := 0
  mem := []
  pc := 0
  flags := 0
  pagingEn := false
  running := false
  pi := { turnedOn := false, enabled := 0, held := 0, request := 0, current := none }
  devices := []
  icount := 0
  exceptionCycle := none
  redispatch := none
  ioLog := []
  params := Params.atReset

end Sys2Proof.Machine
end

