-- ==== Sys2Proof/Machine/Flags.lean ====
section
/-!
DEFINITION. The thirteen processor flags (R25) and every flag computation: the arithmetic unit of R150 to R157. A set
of flags is a 13-bit mask in the order of FLAGS; "set F" ORs the mask in and never clears (R26).
-/

namespace Sys2Proof.Machine

/-- The flags, bit 0 first (R25). -/
inductive Flag where
  | aov | cry0 | cry1 | fov | fpd | usr | uio | pub | afi | tr2 | tr1 | fxu | ndv
  deriving DecidableEq, Repr

/-- The flag's bit in FLAGS (R25). -/
def Flag.mask : Flag → BitVec 13
  | .aov => 0o10000
  | .cry0 => 0o4000
  | .cry1 => 0o2000
  | .fov => 0o1000
  | .fpd => 0o400
  | .usr => 0o200
  | .uio => 0o100
  | .pub => 0o40
  | .afi => 0o20
  | .tr2 => 0o10
  | .tr1 => 0o4
  | .fxu => 0o2
  | .ndv => 0o1

/-- The mask of a list of flags. -/
def flagMask : List Flag → BitVec 13
  | [] => 0
  | f :: fs => f.mask ||| flagMask fs

/-- Whether a flag is 1 in a flags value. -/
def hasFlag (flags : BitVec 13) (f : Flag) : Bool := flags &&& f.mask != 0

/-- {AOV, TR1}: every rule that sets AOV sets TR1 (R642). -/
def overflowFlags : BitVec 13 := flagMask [.aov, .tr1]

/-- {NDV, TR1, AOV}: no-divide (R157) and the fault of ADJBP (R560). -/
def noDivideFlags : BitVec 13 := flagMask [.ndv, .tr1, .aov]

/-- The flags of a sum from its two carries: `c0` out of the sign position, `c1` into it (R150). -/
def carryFlags (c0 c1 : Bool) : BitVec 13 :=
  (if c0 then Flag.cry0.mask else 0) ||| (if c1 then Flag.cry1.mask else 0)
    ||| (if c0 != c1 then overflowFlags else 0)

/-- The sum of two `w`-bit numbers and a carry in, wrapped, with its flags (R150, R151, R152). -/
def addFlagged (w a b carryIn : Nat) : Nat × BitVec 13 :=
  let s := a + b + carryIn
  let c0 := decide (2 ^ w ≤ s)
  let c1 := decide (2 ^ (w - 1) ≤ a % 2 ^ (w - 1) + b % 2 ^ (w - 1) + carryIn)
  (s % 2 ^ w, carryFlags c0 c1)

/-- `add36` (R150). -/
def add36 (a b : Word) : Word × BitVec 13 :=
  let r := addFlagged 36 a.toNat b.toNat 0
  (BitVec.ofNat 36 r.1, r.2)

/-- `sub36`: addition of the one's complement with a carry in (R151). -/
def sub36 (a b : Word) : Word × BitVec 13 :=
  let r := addFlagged 36 a.toNat (2 ^ 36 - 1 - b.toNat) 1
  (BitVec.ofNat 36 r.1, r.2)

/-- `neg36` (R151). -/
def neg36 (a : Word) : Word × BitVec 13 := sub36 0 a

/-- The magnitude move of MOVM: a negative word is negated, another copied with no flags (R133). -/
def magnitude36 (a : Word) : Word × BitVec 13 := if a.msb then neg36 a else (a, 0)

/-- `add71` (R152). -/
def add71 (a b : BitVec 71) : BitVec 71 × BitVec 13 :=
  let r := addFlagged 71 a.toNat b.toNat 0
  (BitVec.ofNat 71 r.1, r.2)

/-- `sub71` (R152). -/
def sub71 (a b : BitVec 71) : BitVec 71 × BitVec 13 :=
  let r := addFlagged 71 a.toNat (2 ^ 71 - 1 - b.toNat) 1
  (BitVec.ofNat 71 r.1, r.2)

/-- `neg71` (R152). -/
def neg71 (a : BitVec 71) : BitVec 71 × BitVec 13 := sub71 0 a

/-- The 35 bits below the sign of a word, as a number. -/
def low35 (w : Word) : Nat := w.toNat % 2 ^ 35

/-- A word with the given sign bit and 35 low bits taken from an integer (R153, R154). -/
def signedPiece (sign : Bool) (v : Int) : Word := BitVec.ofBool sign ++ BitVec.ofInt 35 v

/-- `unpack72` (R153). -/
def unpack72 (h l : Word) : Int := h.toInt * 2 ^ 35 + low35 l

/-- `pack72` (R153): high word, then low word with the sign copied into bit 0. -/
def pack72 (v : Int) : Word × Word :=
  let h := BitVec.ofInt 36 (v / 2 ^ 35)
  (h, signedPiece h.msb v)

/-- `unpack144` (R154). -/
def unpack144 (w0 w1 w2 w3 : Word) : Int :=
  w0.toInt * 2 ^ 105 + (low35 w1 : Int) * 2 ^ 70 + (low35 w2 : Int) * 2 ^ 35 + low35 w3

/-- `pack144` (R154). -/
def pack144 (v : Int) : Word × Word × Word × Word :=
  let w0 := BitVec.ofInt 36 (v / 2 ^ 105)
  (w0, signedPiece w0.msb (v / 2 ^ 70), signedPiece w0.msb (v / 2 ^ 35), signedPiece w0.msb v)

/-- The most negative word, 400000000000. -/
def maxNegative : Word := 0o400000000000

/-- The flags of IMUL and MUL: overflow when, and only when, both operands are max-negative (R155). -/
def mulFlags (a b : Word) : BitVec 13 :=
  if a = maxNegative ∧ b = maxNegative then overflowFlags else 0

/-- The product of MUL, two words, with its flags (R155). -/
def mulWords (a b : Word) : (Word × Word) × BitVec 13 := (pack72 (a.toInt * b.toInt), mulFlags a b)

/-- The product of IMUL, the low word of the packed product, with its flags (R155). -/
def imulWord (a b : Word) : Word × BitVec 13 := ((pack72 (a.toInt * b.toInt)).2, mulFlags a b)

/-- The flags of DMUL: overflow when both operands are -2^70 (R156). -/
def dmulFlags (a b : Int) : BitVec 13 :=
  if a = -(2 ^ 70) ∧ b = -(2 ^ 70) then overflowFlags else 0

/-- `NoDivide(n, d, k)` (R157). -/
def noDivide (n d : Int) (k : Nat) : Bool := d = 0 ∨ d.natAbs * 2 ^ k ≤ n.natAbs

/-- Division truncating toward zero, none when it is a no-divide case (R157). -/
def divide (n d : Int) (k : Nat) : Option (Int × Int) :=
  if noDivide n d k then none else some (n.tdiv d, n.tmod d)

/-- The condition of the eight-way families, by the low three bits of the opcode (R95). -/
inductive Cond where
  | never | l | e | le | a | ge | n | g
  deriving DecidableEq, Repr

/-- `Cond(c, v)` (R290). -/
def Cond.holds (c : Cond) (v : Int) : Bool :=
  match c with
  | .never => false
  | .l => v < 0
  | .e => v = 0
  | .le => v ≤ 0
  | .a => true
  | .ge => 0 ≤ v
  | .n => v ≠ 0
  | .g => 0 < v

end Sys2Proof.Machine
end

