-- ==== Sys2Proof/Machine/Ops.lean ====
section
/-!
DEFINITION. The named operations every meaning is made of: halves of a word, accumulators, memory (R50 to R55), the
effective-address resolver (R83), the dispositions (R630), and entering and leaving exceptions: the monitor call
(R581), the flag save of the subroutine calls (R529), the trap (R641) and the interrupt (R650, R654), the flag
restore (R28) and the dismiss (R653).
-/

namespace Sys2Proof.Machine

-- Halves of a word (R9)

/-- `LH(w)`. -/
def lh (w : Word) : Half := w.extractLsb' 18 18

/-- `RH(w)`. -/
def rh (w : Word) : Half := w.extractLsb' 0 18

/-- `l,,r`. -/
def joinHalves (l r : Half) : Word := l ++ r

/-- `RH(w),,LH(w)`. -/
def swapHalves (w : Word) : Word := joinHalves (rh w) (lh w)

/-- A number added to both halves of a word, each mod 2^18, with no carry between them (R355, R530, R533, R592). -/
def addHalves (w : Word) (k : Half) : Word := joinHalves (lh w + k) (rh w + k)

-- Addresses (R51)

/-- The 18-bit offset of an address. -/
def offsetOf (a : VAddr) : Offset := a.extractLsb' 0 18

/-- The 12-bit section of an address. -/
def sectionOf (a : VAddr) : BitVec 12 := a.extractLsb' 18 12

/-- The address with the section of `a` and the given offset. -/
def inSection (a : VAddr) (o : Offset) : VAddr := sectionOf a ++ o

/-- The address one further inside the section (R51). -/
def nextInSection (a : VAddr) : VAddr := inSection a (offsetOf a + 1)

/-- `sec(o)`: the offset in the PC's section (R9). -/
def State.sec (s : State) (o : Offset) : VAddr := inSection s.pc o

-- Accumulators (R20, R21)

/-- Where register `r` of bank `b` stands. -/
def bankIndex (b : BitVec 3) (r : AcNum) : Fin 128 := ⟨16 * b.toNat + r.toNat, by omega⟩

/-- `AC[r]` of the active bank. -/
def State.ac (s : State) (r : AcNum) : Word := s.acs[(bankIndex s.acblk r).val]

/-- `AC[r] <- v` in the active bank. -/
def State.setAc (s : State) (r : AcNum) (v : Word) : State :=
  { s with acs := s.acs.set (bankIndex s.acblk r).val v }

/-- `if r != 0 then AC[r] <- v` (R88). -/
def State.setAcUnlessZero (s : State) (r : AcNum) (v : Word) : State := if r = 0 then s else s.setAc r v

/-- Two accumulators written in order, `r` then `r + 1` mod 16 (R22). -/
def State.setAcPair (s : State) (r : AcNum) (v : Word × Word) : State := (s.setAc r v.1).setAc (r + 1) v.2

-- Memory (R50 to R55)

/-- The word a memory list holds at an address. -/
def lookupWord : List (Nat × Word) → Nat → Word
  | [], _ => unlistedWord
  | (b, w) :: rest, a => if a = b then w else lookupWord rest a

/-- A word put into the memory list before the first higher address. -/
def insertWord : List (Nat × Word) → Nat → Word → List (Nat × Word)
  | [], a, v => [(a, v)]
  | (b, w) :: rest, a, v => if a < b then (a, v) :: (b, w) :: rest else (b, w) :: insertWord rest a v

/-- The memory list with one word replaced, in the canonical form: the old entry goes, and a new one comes unless the
word is what an unlisted address reads as. -/
def storeWord (m : List (Nat × Word)) (a : Nat) (v : Word) : List (Nat × Word) :=
  let others := m.filter (fun p => p.1 != a)
  if v = unlistedWord then others else insertWord others a v

/-- Addresses at least `lo` and strictly rising, and no listed word equal to what an unlisted word reads as. -/
def Memory.risingFrom : Nat → List (Nat × Word) → Bool
  | _, [] => true
  | lo, (a, w) :: rest => decide (lo ≤ a) && (w != unlistedWord) && Memory.risingFrom (a + 1) rest

/-- The canonical form of memory. Words 0 to 15 are accumulators and never listed (R54). -/
def Memory.wf (m : List (Nat × Word)) : Bool := Memory.risingFrom 16 m

/-- Whether an address names an accumulator (R54): the test is on the whole 30-bit address. -/
def isAcAddr (a : VAddr) : Bool := decide (a.toNat < 16)

/-- Whether an access at an address is possible: an accumulator, or a word below `MEMWORDS` (R55). -/
def State.present (s : State) (a : VAddr) : Bool := isAcAddr a || decide (a.toNat < s.params.memWords)

/-- What an address holds: the accumulator below 16, else the memory word (R52, R54). -/
def State.peek (s : State) (a : VAddr) : Word :=
  if isAcAddr a then s.ac (a.extractLsb' 0 4) else lookupWord s.mem a.toNat

/-- The state with one address's word replaced (R53, R54). -/
def State.poke (s : State) (a : VAddr) (v : Word) : State :=
  if isAcAddr a then s.setAc (a.extractLsb' 0 4) v else { s with mem := storeWord s.mem a.toNat v }

/-- `MemRead(a, 1)` (R52). -/
def State.readMem (s : State) (a : VAddr) : Except Fault Word :=
  if s.present a then .ok (s.peek a) else .error (.nonexistentMemory a)

/-- `MemWrite(a, 1, v)` (R53). -/
def State.writeMem (s : State) (a : VAddr) (v : Word) : Except Fault State :=
  if s.present a then .ok (s.poke a v) else .error (.nonexistentMemory a)

/-- `MemRead(a, 2)`: two reads, the second wrapping inside the section (R52). -/
def State.readMem2 (s : State) (a : VAddr) : Except Fault (Word × Word) := do
  let w0 ← s.readMem a
  let w1 ← s.readMem (nextInSection a)
  pure (w0, w1)

/-- `MemWrite(a, 2, v)` (R53). -/
def State.writeMem2 (s : State) (a : VAddr) (v : Word × Word) : Except Fault State := do
  let s ← s.writeMem a v.1
  s.writeMem (nextInSection a) v.2

-- The effective-address resolver (R83 to R85)

/-- One level of indexing: the running address and `lastWord` after the index register is added (R83). -/
def State.indexed (s : State) (ap : AddrPart) (last : Word) : Offset × Word :=
  if ap.index = 0 then (ap.disp, last) else (ap.disp + rh (s.ac ap.index), s.ac ap.index)

/-- The resolver's loop, with `fuel` more indirect fetches allowed (R83, R84): E and `lastWord`. -/
def State.resolveFrom (s : State) (fuel : Nat) (ap : AddrPart) (last : Word) : Except Fault (Offset × Word) :=
  if ap.indirect then
    match fuel with
    | 0 => .error .addressLoop
    | k + 1 => do
      let w ← s.readMem (s.sec (s.indexed ap last).1)
      s.resolveFrom k (AddrPart.ofWord w) w
  else .ok (s.indexed ap last)

/-- `ResolveEA` on an address part, `own` being the word it stands in (R83). -/
def State.resolve (s : State) (ap : AddrPart) (own : Word) : Except Fault (Offset × Word) :=
  s.resolveFrom s.params.maxIndirect ap own

/-- E of an instruction that does not read `lastWord`. -/
def State.effective (s : State) (ap : AddrPart) : Except Fault Offset := do
  let r ← s.resolve ap 0
  pure r.1

-- Flags (R25 to R28)

/-- Whether a flag is 1. -/
def State.flag (s : State) (f : Flag) : Bool := hasFlag s.flags f

/-- `set F` (R26): flags not in the mask are unchanged. -/
def State.setFlags (s : State) (mask : BitVec 13) : State := { s with flags := s.flags ||| mask }

/-- The flags of a mask cleared. -/
def State.clearFlags (s : State) (mask : BitVec 13) : State := { s with flags := s.flags &&& ~~~mask }

/-- `IOLegal` (R660). -/
def State.ioLegal (s : State) : Bool := !s.flag .usr || s.flag .uio

-- Dispositions (R621, R622, R630)

/-- `nextPC`: the address after PC, or in an exception cycle the interrupted PC (R621, R622). -/
def State.returnPC (s : State) : VAddr :=
  match s.exceptionCycle with
  | none => nextInSection s.pc
  | some e => e.pc

/-- Disposition normal (R630). -/
def State.normal (s : State) : State := { s with pc := s.returnPC }

/-- Disposition skip (R630). -/
def State.skipNext (s : State) : State := { s with pc := s.sec (offsetOf s.returnPC + 1) }

/-- Disposition jump (R630). -/
def State.jumpTo (s : State) (t : Offset) : State := { s with pc := s.sec t }

/-- Disposition skip when the condition holds, else normal. -/
def State.skipIf (s : State) (c : Bool) : State := if c then s.skipNext else s.normal

/-- Disposition jump when the condition holds, else normal. -/
def State.jumpIf (s : State) (c : Bool) (t : Offset) : State := if c then s.jumpTo t else s.normal

/-- Disposition re-dispatch: PC is not committed, the cycle goes on with the word (R630, R522). -/
def State.redispatchWith (s : State) (w : Word) : State := { s with redispatch := some w }

/-- The outcome of an instruction from the end of its pseudocode. -/
def finish : Except Fault State → Result
  | .ok s => .next s
  | .error f => .fault f

-- Entering an exception

/-- `PCFlagsWord(pcv)`: the flags in bits 0-12, zeros, the offset (R27). -/
def State.pcFlagsWord (s : State) (pcv : VAddr) : Word := s.flags ++ (0#5) ++ offsetOf pcv

/-- The number of this cycle's new-PC word among the eight of the process table (R581). -/
def State.muuoIndex (s : State) : BitVec 30 :=
  (if s.flag .usr then 4 else 0) + (if s.flag .pub then 2 else 0)
    + (match s.exceptionCycle with
       | some ⟨.trap, _⟩ => 1
       | _ => 0)

/-- The instruction word an MUUO or LUUO records: opcode and `ac`, bits 13-17 zero, E (R580, R581). -/
def callWord (head : BitVec 13) (e : Offset) : Word := head ++ (0#5) ++ e

/-- `raise MUUO(op, ac, E)` (R581): the instruction and the PC+flags word go to the user process table, FLAGS and the
PC's offset come from its new-PC word. `head` is opcode and `ac` of the instruction. DESIGN CHOICE: the addresses wrap at
30 bits (log 14). -/
def State.raiseMuuo (s : State) (head : BitVec 13) (e : Offset) : Except Fault State := do
  let s ← s.writeMem (s.params.uptBase + 0o424) (callWord head e)
  let s ← s.writeMem (s.params.uptBase + 0o425) (s.pcFlagsWord s.returnPC)
  let w ← s.readMem (s.params.uptBase + 0o430 + s.muuoIndex)
  pure ({ s with flags := headField w }.jumpTo (rh w))

/-- `raise MUUO` for an opcode or function with no handler, under `UNASSIGNED_POLICY` (R582, R518). -/
def State.raiseUnassigned (s : State) (head : BitVec 13) (e : Offset) : Except Fault State :=
  match s.params.unassignedPolicy with
  | .muuo => s.raiseMuuo head e
  | .refuse => .error (.unassignedOpcode head)

/-- The state part of `SaveAndClear`: FPD, AFI, TR1, TR2 cleared, and in an interrupt cycle USR and PUB too (R529).
The word part is `pcFlagsWord returnPC` of the state before. -/
def State.clearOnSave (s : State) : State :=
  let s := s.clearFlags (flagMask [.fpd, .afi, .tr1, .tr2])
  match s.exceptionCycle with
  | some ⟨.interrupt, _⟩ => s.clearFlags (flagMask [.usr, .pub])
  | _ => s

/-- The word part of `SaveAndClear` (R529). -/
def State.savedWord (s : State) : Word := s.pcFlagsWord s.returnPC

/-- Whether a trap is taken at this boundary (R641). -/
def State.trapDue (s : State) : Bool := (s.flag .tr1 || s.flag .tr2) && s.pagingEn

/-- The trap vector, `base + 0420 + n` with n = TR1 + 2 TR2 (R641). DESIGN CHOICE: the sum wraps at 30 bits (log 14). -/
def State.trapVector (s : State) : VAddr :=
  (if s.flag .usr then s.params.uptBase else s.params.eptBase) + 0o420
    + (if s.flag .tr1 then 1 else 0) + (if s.flag .tr2 then 2 else 0)

/-- Taking a trap: TR1 and TR2 are cleared and the cycle becomes a trap cycle (R620 step 2, R641). -/
def State.takeTrap (s : State) : State :=
  { s.clearFlags (flagMask [.tr1, .tr2]) with exceptionCycle := some ⟨.trap, s.pc⟩ }

/-- The levels, most urgent first (R650). -/
def Level.all : List Level := [.l1, .l2, .l3, .l4, .l5, .l6, .l7]

/-- The level's number. -/
def Level.toNat : Level → Nat
  | .l1 => 1
  | .l2 => 2
  | .l3 => 3
  | .l4 => 4
  | .l5 => 5
  | .l6 => 6
  | .l7 => 7

/-- The level's bit in the controller's masks, of weight 2^(7-L) (R31). -/
def Level.mask (l : Level) : BitVec 7 := BitVec.ofNat 7 (2 ^ (7 - l.toNat))

/-- Whether a level is in a mask. -/
def inMask (m : BitVec 7) (l : Level) : Bool := m &&& l.mask != 0

/-- Whether a level is more urgent than the one in service; none is as if level 8 (R31, R650). -/
def moreUrgent (l : Level) (current : Option Level) : Bool :=
  match current with
  | none => true
  | some c => decide (l.toNat < c.toNat)

/-- Whether a device requests an interrupt on a level (R650). -/
def Device.requests (d : Device) (l : Level) : Bool := d.pending && decide (d.level.toNat = l.toNat)

/-- Whether a level is a candidate of the scan: enabled, more urgent than the current one, and requested by program
or by a device (R650). -/
def State.candidate (s : State) (l : Level) : Bool :=
  inMask s.pi.enabled l && moreUrgent l s.pi.current
    && (inMask s.pi.request l || s.devices.any (fun d => d.requests l))

/-- `PIScan()` (R650). -/
def State.piScan (s : State) : Option Level :=
  if s.pi.turnedOn then Level.all.find? s.candidate else none

/-- The interrupt vector, `EPT_BASE + 040 + 2L` (R654). DESIGN CHOICE: the sum wraps at 30 bits (log 14). -/
def State.interruptVector (s : State) (l : Level) : VAddr := s.params.eptBase + 0o40 + BitVec.ofNat 30 (2 * l.toNat)

/-- The grant (R654): the level is marked held and current, the granted device, lowest id first, is asked for its
function word (the answer discarded, its entry unchanged: log 10), and the cycle becomes an interrupt cycle. -/
def State.grant (s : State) (l : Level) : State :=
  { s with
    pi := { s.pi with held := s.pi.held ||| l.mask, current := some l }
    ioLog := match s.devices.find? (fun d => d.requests l) with
      | some d => .getIntFuncWord d.id :: s.ioLog
      | none => s.ioLog
    exceptionCycle := some ⟨.interrupt, s.pc⟩ }

-- Leaving an exception

/-- `RestoreFlags(w)` (R28): every test uses FLAGS as it was before. -/
def State.restoreFlags (s : State) (w : Word) : State :=
  let new := headField w
  let new := if s.flag .usr then new ||| Flag.usr.mask else new
  let new := if s.flag .usr && !s.flag .uio then new &&& ~~~Flag.uio.mask else new
  let new := if s.flag .pub then new ||| Flag.pub.mask else new
  { s with flags := new }

/-- `PIDismiss()` (R653). -/
def State.piDismiss (s : State) : State :=
  match s.pi.current with
  | none => s
  | some l => { s with pi := { s.pi with held := s.pi.held &&& ~~~l.mask, current := none } }

end Sys2Proof.Machine
end

