-- ==== Sys2Proof/Machine/Operands.lean ====
section
/-!
DEFINITION. The operand forms (R87) and the operand modes (R88), each as one definition that takes what the
instruction computes and does the reading, the writing in the order of the pseudocode (R691) and the commit.
-/

namespace Sys2Proof.Machine

/-- The memory operand: the address `sec(E)` and the word `C(E)` (R87). -/
def State.operand (s : State) (m : AddrPart) : Except Fault (VAddr × Word) := do
  let e ← s.effective m
  let w ← s.readMem (s.sec e)
  pure (s.sec e, w)

/-- The double memory operand, `MemRead(sec(E), 2)` (R87). -/
def State.operand2 (s : State) (m : AddrPart) : Except Fault (Word × Word) := do
  let e ← s.effective m
  s.readMem2 (s.sec e)

/-- The immediate operand `0,,E` (R87). -/
def immediate (e : Offset) : Word := joinHalves 0 e

/-- The left immediate operand `E,,0` (R87). -/
def leftImmediate (e : Offset) : Word := joinHalves e 0

-- One-operand modes (the move family, R120): a word to a word and the flags to set

/-- Mode basic: source `C(E)`, destination `AC[ac]`. -/
def unaryBasic (f : Word → Word × BitVec 13) (ac : AcNum) (m : AddrPart) (s : State) : Result := finish do
  let x ← s.operand m
  pure (((s.setFlags (f x.2).2).setAc ac (f x.2).1).normal)

/-- Mode I: source `0,,E`, destination `AC[ac]`. -/
def unaryImmediate (f : Word → Word × BitVec 13) (ac : AcNum) (m : AddrPart) (s : State) : Result := finish do
  let e ← s.effective m
  pure (((s.setFlags (f (immediate e)).2).setAc ac (f (immediate e)).1).normal)

/-- Mode M: source `AC[ac]`, destination `C(E)`. -/
def unaryMemory (f : Word → Word × BitVec 13) (ac : AcNum) (m : AddrPart) (s : State) : Result := finish do
  let e ← s.effective m
  let t ← (s.setFlags (f (s.ac ac)).2).writeMem (s.sec e) (f (s.ac ac)).1
  pure t.normal

/-- Mode S: source `C(E)`, destination `C(E)`, then `AC[ac]` unless `ac` = 0. -/
def unarySelf (f : Word → Word × BitVec 13) (ac : AcNum) (m : AddrPart) (s : State) : Result := finish do
  let x ← s.operand m
  let t ← (s.setFlags (f x.2).2).writeMem x.1 (f x.2).1
  pure ((t.setAcUnlessZero ac (f x.2).1).normal)

-- Two-operand modes (arithmetic and boolean, R88): `AC[ac]` and an operand to a word and the flags to set

/-- Mode basic: `AC[ac]` and `C(E)` to `AC[ac]`. -/
def binaryBasic (f : Word → Word → Word × BitVec 13) (ac : AcNum) (m : AddrPart) (s : State) : Result := finish do
  let x ← s.operand m
  let r := f (s.ac ac) x.2
  pure (((s.setFlags r.2).setAc ac r.1).normal)

/-- Mode I: `AC[ac]` and `0,,E` to `AC[ac]`. -/
def binaryImmediate (f : Word → Word → Word × BitVec 13) (ac : AcNum) (m : AddrPart) (s : State) : Result := finish do
  let e ← s.effective m
  let r := f (s.ac ac) (immediate e)
  pure (((s.setFlags r.2).setAc ac r.1).normal)

/-- Mode M: `AC[ac]` and `C(E)` to `C(E)`. -/
def binaryMemory (f : Word → Word → Word × BitVec 13) (ac : AcNum) (m : AddrPart) (s : State) : Result := finish do
  let x ← s.operand m
  let r := f (s.ac ac) x.2
  let t ← (s.setFlags r.2).writeMem x.1 r.1
  pure t.normal

/-- Mode B: `AC[ac]` and `C(E)` to `C(E)`, then to `AC[ac]`. -/
def binaryBoth (f : Word → Word → Word × BitVec 13) (ac : AcNum) (m : AddrPart) (s : State) : Result := finish do
  let x ← s.operand m
  let r := f (s.ac ac) x.2
  let t ← (s.setFlags r.2).writeMem x.1 r.1
  pure ((t.setAc ac r.1).normal)

-- The same with a two-word result (MUL, R172 to R175): the high word to `AC[ac]` or memory, the low to `AC[ac+1]`

/-- Mode basic. -/
def pairBasic (f : Word → Word → (Word × Word) × BitVec 13) (ac : AcNum) (m : AddrPart) (s : State) : Result :=
  finish do
    let x ← s.operand m
    let r := f (s.ac ac) x.2
    pure (((s.setFlags r.2).setAcPair ac r.1).normal)

/-- Mode I. -/
def pairImmediate (f : Word → Word → (Word × Word) × BitVec 13) (ac : AcNum) (m : AddrPart) (s : State) : Result :=
  finish do
    let e ← s.effective m
    let r := f (s.ac ac) (immediate e)
    pure (((s.setFlags r.2).setAcPair ac r.1).normal)

/-- Mode M: only the high word is stored. -/
def pairMemory (f : Word → Word → (Word × Word) × BitVec 13) (ac : AcNum) (m : AddrPart) (s : State) : Result :=
  finish do
    let x ← s.operand m
    let r := f (s.ac ac) x.2
    let t ← (s.setFlags r.2).writeMem x.1 r.1.1
    pure t.normal

/-- Mode B. -/
def pairBoth (f : Word → Word → (Word × Word) × BitVec 13) (ac : AcNum) (m : AddrPart) (s : State) : Result :=
  finish do
    let x ← s.operand m
    let r := f (s.ac ac) x.2
    let t ← (s.setFlags r.2).writeMem x.1 r.1.1
    pure ((t.setAcPair ac r.1).normal)

-- Division modes (R176 to R183): a no-divide sets its flags and writes nothing else

/-- The dividend of IDIV: `S(AC[ac])`. -/
def State.dividend1 (s : State) (ac : AcNum) : Int := (s.ac ac).toInt

/-- The dividend of DIV: the double word `(AC[ac], AC[ac+1])`. -/
def State.dividend2 (s : State) (ac : AcNum) : Int := unpack72 (s.ac ac) (s.ac (ac + 1))

/-- The quotient and remainder as words. -/
def quotientWords (q : Int × Int) : Word × Word := (BitVec.ofInt 36 q.1, BitVec.ofInt 36 q.2)

/-- The no-divide outcome: {NDV, TR1, AOV}, nothing else written (R157). -/
def State.noDivideNext (s : State) : State := (s.setFlags noDivideFlags).normal

/-- Mode basic: quotient to `AC[ac]`, remainder to `AC[ac+1]`. -/
def divideBasic (n : Int) (ac : AcNum) (m : AddrPart) (s : State) : Result := finish do
  let x ← s.operand m
  match divide n x.2.toInt 35 with
  | none => pure s.noDivideNext
  | some q => pure ((s.setAcPair ac (quotientWords q)).normal)

/-- Mode I. -/
def divideImmediate (n : Int) (ac : AcNum) (m : AddrPart) (s : State) : Result := finish do
  let e ← s.effective m
  match divide n (immediate e).toInt 35 with
  | none => pure s.noDivideNext
  | some q => pure ((s.setAcPair ac (quotientWords q)).normal)

/-- Mode M: only the quotient is stored, in memory. -/
def divideMemory (n : Int) (m : AddrPart) (s : State) : Result := finish do
  let x ← s.operand m
  match divide n x.2.toInt 35 with
  | none => pure s.noDivideNext
  | some q => do
    let t ← s.writeMem x.1 (quotientWords q).1
    pure t.normal

/-- Mode B: the quotient to memory, then both accumulators. -/
def divideBoth (n : Int) (ac : AcNum) (m : AddrPart) (s : State) : Result := finish do
  let x ← s.operand m
  match divide n x.2.toInt 35 with
  | none => pure s.noDivideNext
  | some q => do
    let t ← s.writeMem x.1 (quotientWords q).1
    pure ((t.setAcPair ac (quotientWords q)).normal)

end Sys2Proof.Machine
end

