-- ==== Sys2Proof/Machine/ArithTest.lean ====
section
/-!
DEFINITION. Arithmetic tests, skips, jumps and loops (R290 to R357): eight families under the eight conditions of R95, and
AOBJP, AOBJN, JFFO.
-/

namespace Sys2Proof.Machine

/-- CAI under a condition: skip on `S(AC[ac]) - E` (R291). -/
def compareImmediate (c : Cond) (ac : AcNum) (m : AddrPart) (s : State) : Result := finish do
  let e ← s.effective m
  pure (s.skipIf (c.holds ((s.ac ac).toInt - (e.toNat : Int))))

/-- CAM under a condition: skip on `S(AC[ac]) - S(C(E))` (R299). -/
def compareMemory (c : Cond) (ac : AcNum) (m : AddrPart) (s : State) : Result := finish do
  let x ← s.operand m
  pure (s.skipIf (c.holds ((s.ac ac).toInt - x.2.toInt)))

/-- JUMP under a condition on `AC[ac]` (R307). -/
def jumpOnAc (c : Cond) (ac : AcNum) (m : AddrPart) (s : State) : Result := finish do
  let e ← s.effective m
  pure (s.jumpIf (c.holds (s.ac ac).toInt) e)

/-- SKIP under a condition on `C(E)`, which is loaded into `AC[ac]` unless `ac` = 0 (R315). -/
def skipOnMemory (c : Cond) (ac : AcNum) (m : AddrPart) (s : State) : Result := finish do
  let x ← s.operand m
  pure ((s.setAcUnlessZero ac x.2).skipIf (c.holds x.2.toInt))

/-- AOJ's and AOS's function (R290). -/
def plusOne (a : Word) : Word × BitVec 13 := add36 a 1

/-- SOJ's and SOS's function (R290). -/
def minusOne (a : Word) : Word × BitVec 13 := sub36 a 1

/-- AOJ and SOJ: step `AC[ac]`, jump on the result (R323, R339). -/
def stepAndJump (f : Word → Word × BitVec 13) (c : Cond) (ac : AcNum) (m : AddrPart) (s : State) : Result := finish do
  let e ← s.effective m
  let r := f (s.ac ac)
  pure (((s.setFlags r.2).setAc ac r.1).jumpIf (c.holds r.1.toInt) e)

/-- AOS and SOS: step `C(E)` in place, load it into `AC[ac]` unless `ac` = 0, skip on the result (R331, R347). -/
def stepAndSkip (f : Word → Word × BitVec 13) (c : Cond) (ac : AcNum) (m : AddrPart) (s : State) : Result := finish do
  let x ← s.operand m
  let r := f x.2
  let t ← (s.setFlags r.2).writeMem x.1 r.1
  pure ((t.setAcUnlessZero ac r.1).skipIf (c.holds r.1.toInt))

/-- CAI (R291): compare `AC[ac]` with `0,,E`, skip: never. -/
def execCai (ac : AcNum) (m : AddrPart) (s : State) : Result := compareImmediate .never ac m s

/-- CAIL (R292): compare `AC[ac]` with `0,,E`, skip: v < 0. -/
def execCail (ac : AcNum) (m : AddrPart) (s : State) : Result := compareImmediate .l ac m s

/-- CAIE (R293): compare `AC[ac]` with `0,,E`, skip: v = 0. -/
def execCaie (ac : AcNum) (m : AddrPart) (s : State) : Result := compareImmediate .e ac m s

/-- CAILE (R294): compare `AC[ac]` with `0,,E`, skip: v <= 0. -/
def execCaile (ac : AcNum) (m : AddrPart) (s : State) : Result := compareImmediate .le ac m s

/-- CAIA (R295): compare `AC[ac]` with `0,,E`, skip: always. -/
def execCaia (ac : AcNum) (m : AddrPart) (s : State) : Result := compareImmediate .a ac m s

/-- CAIGE (R296): compare `AC[ac]` with `0,,E`, skip: v >= 0. -/
def execCaige (ac : AcNum) (m : AddrPart) (s : State) : Result := compareImmediate .ge ac m s

/-- CAIN (R297): compare `AC[ac]` with `0,,E`, skip: v != 0. -/
def execCain (ac : AcNum) (m : AddrPart) (s : State) : Result := compareImmediate .n ac m s

/-- CAIG (R298): compare `AC[ac]` with `0,,E`, skip: v > 0. -/
def execCaig (ac : AcNum) (m : AddrPart) (s : State) : Result := compareImmediate .g ac m s

/-- CAM (R299): compare `AC[ac]` with `C(E)`, skip: never. -/
def execCam (ac : AcNum) (m : AddrPart) (s : State) : Result := compareMemory .never ac m s

/-- CAML (R300): compare `AC[ac]` with `C(E)`, skip: v < 0. -/
def execCaml (ac : AcNum) (m : AddrPart) (s : State) : Result := compareMemory .l ac m s

/-- CAME (R301): compare `AC[ac]` with `C(E)`, skip: v = 0. -/
def execCame (ac : AcNum) (m : AddrPart) (s : State) : Result := compareMemory .e ac m s

/-- CAMLE (R302): compare `AC[ac]` with `C(E)`, skip: v <= 0. -/
def execCamle (ac : AcNum) (m : AddrPart) (s : State) : Result := compareMemory .le ac m s

/-- CAMA (R303): compare `AC[ac]` with `C(E)`, skip: always. -/
def execCama (ac : AcNum) (m : AddrPart) (s : State) : Result := compareMemory .a ac m s

/-- CAMGE (R304): compare `AC[ac]` with `C(E)`, skip: v >= 0. -/
def execCamge (ac : AcNum) (m : AddrPart) (s : State) : Result := compareMemory .ge ac m s

/-- CAMN (R305): compare `AC[ac]` with `C(E)`, skip: v != 0. -/
def execCamn (ac : AcNum) (m : AddrPart) (s : State) : Result := compareMemory .n ac m s

/-- CAMG (R306): compare `AC[ac]` with `C(E)`, skip: v > 0. -/
def execCamg (ac : AcNum) (m : AddrPart) (s : State) : Result := compareMemory .g ac m s

/-- JUMP (R307): jump on `AC[ac]`: never. -/
def execJump (ac : AcNum) (m : AddrPart) (s : State) : Result := jumpOnAc .never ac m s

/-- JUMPL (R308): jump on `AC[ac]`: v < 0. -/
def execJumpl (ac : AcNum) (m : AddrPart) (s : State) : Result := jumpOnAc .l ac m s

/-- JUMPE (R309): jump on `AC[ac]`: v = 0. -/
def execJumpe (ac : AcNum) (m : AddrPart) (s : State) : Result := jumpOnAc .e ac m s

/-- JUMPLE (R310): jump on `AC[ac]`: v <= 0. -/
def execJumple (ac : AcNum) (m : AddrPart) (s : State) : Result := jumpOnAc .le ac m s

/-- JUMPA (R311): jump on `AC[ac]`: always. -/
def execJumpa (ac : AcNum) (m : AddrPart) (s : State) : Result := jumpOnAc .a ac m s

/-- JUMPGE (R312): jump on `AC[ac]`: v >= 0. -/
def execJumpge (ac : AcNum) (m : AddrPart) (s : State) : Result := jumpOnAc .ge ac m s

/-- JUMPN (R313): jump on `AC[ac]`: v != 0. -/
def execJumpn (ac : AcNum) (m : AddrPart) (s : State) : Result := jumpOnAc .n ac m s

/-- JUMPG (R314): jump on `AC[ac]`: v > 0. -/
def execJumpg (ac : AcNum) (m : AddrPart) (s : State) : Result := jumpOnAc .g ac m s

/-- SKIP (R315): skip on `C(E)`: never. -/
def execSkip (ac : AcNum) (m : AddrPart) (s : State) : Result := skipOnMemory .never ac m s

/-- SKIPL (R316): skip on `C(E)`: v < 0. -/
def execSkipl (ac : AcNum) (m : AddrPart) (s : State) : Result := skipOnMemory .l ac m s

/-- SKIPE (R317): skip on `C(E)`: v = 0. -/
def execSkipe (ac : AcNum) (m : AddrPart) (s : State) : Result := skipOnMemory .e ac m s

/-- SKIPLE (R318): skip on `C(E)`: v <= 0. -/
def execSkiple (ac : AcNum) (m : AddrPart) (s : State) : Result := skipOnMemory .le ac m s

/-- SKIPA (R319): skip on `C(E)`: always. -/
def execSkipa (ac : AcNum) (m : AddrPart) (s : State) : Result := skipOnMemory .a ac m s

/-- SKIPGE (R320): skip on `C(E)`: v >= 0. -/
def execSkipge (ac : AcNum) (m : AddrPart) (s : State) : Result := skipOnMemory .ge ac m s

/-- SKIPN (R321): skip on `C(E)`: v != 0. -/
def execSkipn (ac : AcNum) (m : AddrPart) (s : State) : Result := skipOnMemory .n ac m s

/-- SKIPG (R322): skip on `C(E)`: v > 0. -/
def execSkipg (ac : AcNum) (m : AddrPart) (s : State) : Result := skipOnMemory .g ac m s

/-- AOJ (R323): add one to `AC[ac]`, jump: never. -/
def execAoj (ac : AcNum) (m : AddrPart) (s : State) : Result := stepAndJump plusOne .never ac m s

/-- AOJL (R324): add one to `AC[ac]`, jump: v < 0. -/
def execAojl (ac : AcNum) (m : AddrPart) (s : State) : Result := stepAndJump plusOne .l ac m s

/-- AOJE (R325): add one to `AC[ac]`, jump: v = 0. -/
def execAoje (ac : AcNum) (m : AddrPart) (s : State) : Result := stepAndJump plusOne .e ac m s

/-- AOJLE (R326): add one to `AC[ac]`, jump: v <= 0. -/
def execAojle (ac : AcNum) (m : AddrPart) (s : State) : Result := stepAndJump plusOne .le ac m s

/-- AOJA (R327): add one to `AC[ac]`, jump: always. -/
def execAoja (ac : AcNum) (m : AddrPart) (s : State) : Result := stepAndJump plusOne .a ac m s

/-- AOJGE (R328): add one to `AC[ac]`, jump: v >= 0. -/
def execAojge (ac : AcNum) (m : AddrPart) (s : State) : Result := stepAndJump plusOne .ge ac m s

/-- AOJN (R329): add one to `AC[ac]`, jump: v != 0. -/
def execAojn (ac : AcNum) (m : AddrPart) (s : State) : Result := stepAndJump plusOne .n ac m s

/-- AOJG (R330): add one to `AC[ac]`, jump: v > 0. -/
def execAojg (ac : AcNum) (m : AddrPart) (s : State) : Result := stepAndJump plusOne .g ac m s

/-- AOS (R331): add one to `C(E)`, skip: never. -/
def execAos (ac : AcNum) (m : AddrPart) (s : State) : Result := stepAndSkip plusOne .never ac m s

/-- AOSL (R332): add one to `C(E)`, skip: v < 0. -/
def execAosl (ac : AcNum) (m : AddrPart) (s : State) : Result := stepAndSkip plusOne .l ac m s

/-- AOSE (R333): add one to `C(E)`, skip: v = 0. -/
def execAose (ac : AcNum) (m : AddrPart) (s : State) : Result := stepAndSkip plusOne .e ac m s

/-- AOSLE (R334): add one to `C(E)`, skip: v <= 0. -/
def execAosle (ac : AcNum) (m : AddrPart) (s : State) : Result := stepAndSkip plusOne .le ac m s

/-- AOSA (R335): add one to `C(E)`, skip: always. -/
def execAosa (ac : AcNum) (m : AddrPart) (s : State) : Result := stepAndSkip plusOne .a ac m s

/-- AOSGE (R336): add one to `C(E)`, skip: v >= 0. -/
def execAosge (ac : AcNum) (m : AddrPart) (s : State) : Result := stepAndSkip plusOne .ge ac m s

/-- AOSN (R337): add one to `C(E)`, skip: v != 0. -/
def execAosn (ac : AcNum) (m : AddrPart) (s : State) : Result := stepAndSkip plusOne .n ac m s

/-- AOSG (R338): add one to `C(E)`, skip: v > 0. -/
def execAosg (ac : AcNum) (m : AddrPart) (s : State) : Result := stepAndSkip plusOne .g ac m s

/-- SOJ (R339): subtract one from `AC[ac]`, jump: never. -/
def execSoj (ac : AcNum) (m : AddrPart) (s : State) : Result := stepAndJump minusOne .never ac m s

/-- SOJL (R340): subtract one from `AC[ac]`, jump: v < 0. -/
def execSojl (ac : AcNum) (m : AddrPart) (s : State) : Result := stepAndJump minusOne .l ac m s

/-- SOJE (R341): subtract one from `AC[ac]`, jump: v = 0. -/
def execSoje (ac : AcNum) (m : AddrPart) (s : State) : Result := stepAndJump minusOne .e ac m s

/-- SOJLE (R342): subtract one from `AC[ac]`, jump: v <= 0. -/
def execSojle (ac : AcNum) (m : AddrPart) (s : State) : Result := stepAndJump minusOne .le ac m s

/-- SOJA (R343): subtract one from `AC[ac]`, jump: always. -/
def execSoja (ac : AcNum) (m : AddrPart) (s : State) : Result := stepAndJump minusOne .a ac m s

/-- SOJGE (R344): subtract one from `AC[ac]`, jump: v >= 0. -/
def execSojge (ac : AcNum) (m : AddrPart) (s : State) : Result := stepAndJump minusOne .ge ac m s

/-- SOJN (R345): subtract one from `AC[ac]`, jump: v != 0. -/
def execSojn (ac : AcNum) (m : AddrPart) (s : State) : Result := stepAndJump minusOne .n ac m s

/-- SOJG (R346): subtract one from `AC[ac]`, jump: v > 0. -/
def execSojg (ac : AcNum) (m : AddrPart) (s : State) : Result := stepAndJump minusOne .g ac m s

/-- SOS (R347): subtract one from `C(E)`, skip: never. -/
def execSos (ac : AcNum) (m : AddrPart) (s : State) : Result := stepAndSkip minusOne .never ac m s

/-- SOSL (R348): subtract one from `C(E)`, skip: v < 0. -/
def execSosl (ac : AcNum) (m : AddrPart) (s : State) : Result := stepAndSkip minusOne .l ac m s

/-- SOSE (R349): subtract one from `C(E)`, skip: v = 0. -/
def execSose (ac : AcNum) (m : AddrPart) (s : State) : Result := stepAndSkip minusOne .e ac m s

/-- SOSLE (R350): subtract one from `C(E)`, skip: v <= 0. -/
def execSosle (ac : AcNum) (m : AddrPart) (s : State) : Result := stepAndSkip minusOne .le ac m s

/-- SOSA (R351): subtract one from `C(E)`, skip: always. -/
def execSosa (ac : AcNum) (m : AddrPart) (s : State) : Result := stepAndSkip minusOne .a ac m s

/-- SOSGE (R352): subtract one from `C(E)`, skip: v >= 0. -/
def execSosge (ac : AcNum) (m : AddrPart) (s : State) : Result := stepAndSkip minusOne .ge ac m s

/-- SOSN (R353): subtract one from `C(E)`, skip: v != 0. -/
def execSosn (ac : AcNum) (m : AddrPart) (s : State) : Result := stepAndSkip minusOne .n ac m s

/-- SOSG (R354): subtract one from `C(E)`, skip: v > 0. -/
def execSosg (ac : AcNum) (m : AddrPart) (s : State) : Result := stepAndSkip minusOne .g ac m s

/-- AOBJP and AOBJN: add one to both halves of `AC[ac]`, jump on the sign of the result (R355, R356). -/
def addBothAndJump (jumpNegative : Bool) (ac : AcNum) (m : AddrPart) (s : State) : Result := finish do
  let e ← s.effective m
  let r := addHalves (s.ac ac) 1
  pure ((s.setAc ac r).jumpIf (r.msb == jumpNegative) e)

/-- AOBJP (R355): jump if the result is positive or zero. -/
def execAobjp (ac : AcNum) (m : AddrPart) (s : State) : Result := addBothAndJump false ac m s

/-- AOBJN (R356): jump if the result is negative. -/
def execAobjn (ac : AcNum) (m : AddrPart) (s : State) : Result := addBothAndJump true ac m s

/-- The number of 0 bits to the left of the leftmost 1; 0 for the word 0 (R357). -/
def leadingZeros (w : Word) : Nat := ((List.range 36).find? (fun k => w.getMsbD k)).getD 0

/-- JFFO (R357): find first one; `AC[ac+1]` is written in both cases, the jump is taken unless `AC[ac]` = 0. -/
def execJffo (ac : AcNum) (m : AddrPart) (s : State) : Result :=
  finish do
  let e ← s.effective m
  pure ((s.setAc (ac + 1) (BitVec.ofNat 36 (leadingZeros (s.ac ac)))).jumpIf (s.ac ac != 0) e)

end Sys2Proof.Machine
end

