-- ==== Sys2Proof/Machine/Arithmetic.lean ====
section
/-!
DEFINITION. The fixed-point arithmetic family (R159 to R187) over the arithmetic unit of Flags.lean.
-/

namespace Sys2Proof.Machine

/-- ADD (R160): the sum of `AC[ac]` and `C(E)` to `AC[ac]`. -/
def execAdd (ac : AcNum) (m : AddrPart) (s : State) : Result := binaryBasic add36 ac m s

/-- ADDI (R161): the sum of `AC[ac]` and `0,,E` to `AC[ac]`. -/
def execAddi (ac : AcNum) (m : AddrPart) (s : State) : Result := binaryImmediate add36 ac m s

/-- ADDM (R162): the sum of `AC[ac]` and `C(E)` to `C(E)`. -/
def execAddm (ac : AcNum) (m : AddrPart) (s : State) : Result := binaryMemory add36 ac m s

/-- ADDB (R163): the sum of `AC[ac]` and `C(E)` to `C(E)`, then `AC[ac]`. -/
def execAddb (ac : AcNum) (m : AddrPart) (s : State) : Result := binaryBoth add36 ac m s

/-- SUB (R164): the difference of `AC[ac]` and `C(E)` to `AC[ac]`. -/
def execSub (ac : AcNum) (m : AddrPart) (s : State) : Result := binaryBasic sub36 ac m s

/-- SUBI (R165): the difference of `AC[ac]` and `0,,E` to `AC[ac]`. -/
def execSubi (ac : AcNum) (m : AddrPart) (s : State) : Result := binaryImmediate sub36 ac m s

/-- SUBM (R166): the difference of `AC[ac]` and `C(E)` to `C(E)`. -/
def execSubm (ac : AcNum) (m : AddrPart) (s : State) : Result := binaryMemory sub36 ac m s

/-- SUBB (R167): the difference of `AC[ac]` and `C(E)` to `C(E)`, then `AC[ac]`. -/
def execSubb (ac : AcNum) (m : AddrPart) (s : State) : Result := binaryBoth sub36 ac m s

/-- IMUL (R168): the low product word of `AC[ac]` and `C(E)` to `AC[ac]`. -/
def execImul (ac : AcNum) (m : AddrPart) (s : State) : Result := binaryBasic imulWord ac m s

/-- IMULI (R169): the low product word of `AC[ac]` and `0,,E` to `AC[ac]`. -/
def execImuli (ac : AcNum) (m : AddrPart) (s : State) : Result := binaryImmediate imulWord ac m s

/-- IMULM (R170): the low product word of `AC[ac]` and `C(E)` to `C(E)`. -/
def execImulm (ac : AcNum) (m : AddrPart) (s : State) : Result := binaryMemory imulWord ac m s

/-- IMULB (R171): the low product word of `AC[ac]` and `C(E)` to `C(E)`, then `AC[ac]`. -/
def execImulb (ac : AcNum) (m : AddrPart) (s : State) : Result := binaryBoth imulWord ac m s

/-- MUL (R172): the double product of `AC[ac]` and `C(E)` to the accumulator pair. -/
def execMul (ac : AcNum) (m : AddrPart) (s : State) : Result := pairBasic mulWords ac m s

/-- MULI (R173): the double product of `AC[ac]` and `0,,E` to the accumulator pair. -/
def execMuli (ac : AcNum) (m : AddrPart) (s : State) : Result := pairImmediate mulWords ac m s

/-- MULM (R174): the double product of `AC[ac]` and `C(E)` to `C(E)`, high word only. -/
def execMulm (ac : AcNum) (m : AddrPart) (s : State) : Result := pairMemory mulWords ac m s

/-- MULB (R175): the double product of `AC[ac]` and `C(E)` to `C(E)` (high word), then the accumulator pair. -/
def execMulb (ac : AcNum) (m : AddrPart) (s : State) : Result := pairBoth mulWords ac m s

/-- IDIV (R176): `AC[ac]` divided by `C(E)`; quotient and remainder to the accumulator pair. -/
def execIdiv (ac : AcNum) (m : AddrPart) (s : State) : Result := divideBasic (s.dividend1 ac) ac m s

/-- IDIVI (R177): `AC[ac]` divided by `0,,E`; quotient and remainder to the accumulator pair. -/
def execIdivi (ac : AcNum) (m : AddrPart) (s : State) : Result := divideImmediate (s.dividend1 ac) ac m s

/-- IDIVM (R178): `AC[ac]` divided by `C(E)`; the quotient to `C(E)`. -/
def execIdivm (ac : AcNum) (m : AddrPart) (s : State) : Result := divideMemory (s.dividend1 ac) m s

/-- IDIVB (R179): `AC[ac]` divided by `C(E)`; the quotient to `C(E)`, then quotient and remainder to the accumulator pair. -/
def execIdivb (ac : AcNum) (m : AddrPart) (s : State) : Result := divideBoth (s.dividend1 ac) ac m s

/-- DIV (R180): the accumulator pair divided by `C(E)`; quotient and remainder to the accumulator pair. -/
def execDiv (ac : AcNum) (m : AddrPart) (s : State) : Result := divideBasic (s.dividend2 ac) ac m s

/-- DIVI (R181): the accumulator pair divided by `0,,E`; quotient and remainder to the accumulator pair. -/
def execDivi (ac : AcNum) (m : AddrPart) (s : State) : Result := divideImmediate (s.dividend2 ac) ac m s

/-- DIVM (R182): the accumulator pair divided by `C(E)`; the quotient to `C(E)`. -/
def execDivm (ac : AcNum) (m : AddrPart) (s : State) : Result := divideMemory (s.dividend2 ac) m s

/-- DIVB (R183): the accumulator pair divided by `C(E)`; the quotient to `C(E)`, then quotient and remainder to the accumulator pair. -/
def execDivb (ac : AcNum) (m : AddrPart) (s : State) : Result := divideBoth (s.dividend2 ac) ac m s

/-- A 71-bit operation on two double words, packed, with its flags (R184, R185). -/
def doubleSum (f : BitVec 71 → BitVec 71 → BitVec 71 × BitVec 13) (a b : Int) : (Word × Word) × BitVec 13 :=
  let r := f (BitVec.ofInt 71 a) (BitVec.ofInt 71 b)
  (pack72 r.1.toInt, r.2)

/-- DADD (R184): the sum of the accumulator pair and the double word at E. -/
def execDadd (ac : AcNum) (m : AddrPart) (s : State) : Result :=
  finish do
  let x ← s.operand2 m
  let r := doubleSum add71 (s.dividend2 ac) (unpack72 x.1 x.2)
  pure (((s.setFlags r.2).setAcPair ac r.1).normal)

/-- DSUB (R185): the difference of the accumulator pair and the double word at E. -/
def execDsub (ac : AcNum) (m : AddrPart) (s : State) : Result :=
  finish do
  let x ← s.operand2 m
  let r := doubleSum sub71 (s.dividend2 ac) (unpack72 x.1 x.2)
  pure (((s.setFlags r.2).setAcPair ac r.1).normal)

/-- Four accumulators written in order, numbers mod 16 (R186). -/
def State.setAcQuad (s : State) (r : AcNum) (v : Word × Word × Word × Word) : State :=
  (((s.setAc r v.1).setAc (r + 1) v.2.1).setAc (r + 2) v.2.2.1).setAc (r + 3) v.2.2.2

/-- DMUL (R186): the quadruple product to four accumulators. -/
def execDmul (ac : AcNum) (m : AddrPart) (s : State) : Result :=
  finish do
  let x ← s.operand2 m
  let a := s.dividend2 ac
  let b := unpack72 x.1 x.2
  pure (((s.setFlags (dmulFlags a b)).setAcQuad ac (pack144 (a * b))).normal)

/-- The dividend of DDIV: the quadruple word of four accumulators (R187). -/
def State.dividend4 (s : State) (ac : AcNum) : Int :=
  unpack144 (s.ac ac) (s.ac (ac + 1)) (s.ac (ac + 2)) (s.ac (ac + 3))

/-- DDIV (R187): the quadruple dividend by the double divisor; quotient pair, then remainder pair. -/
def execDdiv (ac : AcNum) (m : AddrPart) (s : State) : Result :=
  finish do
  let x ← s.operand2 m
  match divide (s.dividend4 ac) (unpack72 x.1 x.2) 70 with
  | none => pure s.noDivideNext
  | some q => pure (((s.setAcPair ac (pack72 q.1)).setAcPair (ac + 2) (pack72 q.2)).normal)

end Sys2Proof.Machine
end

