-- ==== Sys2Proof/Machine/Boolean.lean ====
section
/-!
DEFINITION. The boolean family (R200 to R264): sixteen bitwise functions of a = `AC[ac]` and b, each in four modes. No
flag is written.
-/

namespace Sys2Proof.Machine

/-- Function 0, SETZ (R200). -/
def zeroFn (_ _ : Word) : Word := 0

/-- Function 1, AND (R200). -/
def andFn (a b : Word) : Word := a &&& b

/-- Function 2, ANDCA (R200). -/
def andcaFn (a b : Word) : Word := ~~~a &&& b

/-- Function 3, SETM (R200). -/
def secondFn (_ b : Word) : Word := b

/-- Function 4, ANDCM (R200). -/
def andcmFn (a b : Word) : Word := a &&& ~~~b

/-- Function 5, SETA (R200). -/
def firstFn (a _ : Word) : Word := a

/-- Function 6, XOR (R200). -/
def xorFn (a b : Word) : Word := a ^^^ b

/-- Function 7, IOR (R200). -/
def iorFn (a b : Word) : Word := a ||| b

/-- Function 8, ANDCB (R200). -/
def andcbFn (a b : Word) : Word := ~~~a &&& ~~~b

/-- Function 9, EQV (R200). -/
def eqvFn (a b : Word) : Word := ~~~(a ^^^ b)

/-- Function 10, SETCA (R200). -/
def notFirstFn (a _ : Word) : Word := ~~~a

/-- Function 11, ORCA (R200). -/
def orcaFn (a b : Word) : Word := ~~~a ||| b

/-- Function 12, SETCM (R200). -/
def notSecondFn (_ b : Word) : Word := ~~~b

/-- Function 13, ORCM (R200). -/
def orcmFn (a b : Word) : Word := a ||| ~~~b

/-- Function 14, ORCB (R200). -/
def orcbFn (a b : Word) : Word := ~~~a ||| ~~~b

/-- Function 15, SETO (R200). -/
def onesFn (_ _ : Word) : Word := BitVec.allOnes 36

/-- A function that sets no flag. -/
def noFlags (f : Word → Word → Word) (a b : Word) : Word × BitVec 13 := (f a b, 0)

/-- SETZ (R201): b = `C(E)`, result to `AC[ac]`. -/
def execSetz (ac : AcNum) (m : AddrPart) (s : State) : Result := binaryBasic (noFlags zeroFn) ac m s

/-- SETZI (R202): b = `0,,E`, result to `AC[ac]`. -/
def execSetzi (ac : AcNum) (m : AddrPart) (s : State) : Result := binaryImmediate (noFlags zeroFn) ac m s

/-- SETZM (R203): b = `C(E)`, result to `C(E)`. -/
def execSetzm (ac : AcNum) (m : AddrPart) (s : State) : Result := binaryMemory (noFlags zeroFn) ac m s

/-- SETZB (R204): b = `C(E)`, result to `C(E)`, then `AC[ac]`. -/
def execSetzb (ac : AcNum) (m : AddrPart) (s : State) : Result := binaryBoth (noFlags zeroFn) ac m s

/-- AND (R205): b = `C(E)`, result to `AC[ac]`. -/
def execAnd (ac : AcNum) (m : AddrPart) (s : State) : Result := binaryBasic (noFlags andFn) ac m s

/-- ANDI (R206): b = `0,,E`, result to `AC[ac]`. -/
def execAndi (ac : AcNum) (m : AddrPart) (s : State) : Result := binaryImmediate (noFlags andFn) ac m s

/-- ANDM (R207): b = `C(E)`, result to `C(E)`. -/
def execAndm (ac : AcNum) (m : AddrPart) (s : State) : Result := binaryMemory (noFlags andFn) ac m s

/-- ANDB (R208): b = `C(E)`, result to `C(E)`, then `AC[ac]`. -/
def execAndb (ac : AcNum) (m : AddrPart) (s : State) : Result := binaryBoth (noFlags andFn) ac m s

/-- ANDCA (R209): b = `C(E)`, result to `AC[ac]`. -/
def execAndca (ac : AcNum) (m : AddrPart) (s : State) : Result := binaryBasic (noFlags andcaFn) ac m s

/-- ANDCAI (R210): b = `0,,E`, result to `AC[ac]`. -/
def execAndcai (ac : AcNum) (m : AddrPart) (s : State) : Result := binaryImmediate (noFlags andcaFn) ac m s

/-- ANDCAM (R211): b = `C(E)`, result to `C(E)`. -/
def execAndcam (ac : AcNum) (m : AddrPart) (s : State) : Result := binaryMemory (noFlags andcaFn) ac m s

/-- ANDCAB (R212): b = `C(E)`, result to `C(E)`, then `AC[ac]`. -/
def execAndcab (ac : AcNum) (m : AddrPart) (s : State) : Result := binaryBoth (noFlags andcaFn) ac m s

/-- SETM (R213): b = `C(E)`, result to `AC[ac]`. -/
def execSetm (ac : AcNum) (m : AddrPart) (s : State) : Result := binaryBasic (noFlags secondFn) ac m s

/-- SETMI (R214): b = `0,,E`, result to `AC[ac]`. -/
def execSetmi (ac : AcNum) (m : AddrPart) (s : State) : Result := binaryImmediate (noFlags secondFn) ac m s

/-- SETMM (R215): b = `C(E)`, result to `C(E)`. -/
def execSetmm (ac : AcNum) (m : AddrPart) (s : State) : Result := binaryMemory (noFlags secondFn) ac m s

/-- SETMB (R216): b = `C(E)`, result to `C(E)`, then `AC[ac]`. -/
def execSetmb (ac : AcNum) (m : AddrPart) (s : State) : Result := binaryBoth (noFlags secondFn) ac m s

/-- ANDCM (R217): b = `C(E)`, result to `AC[ac]`. -/
def execAndcm (ac : AcNum) (m : AddrPart) (s : State) : Result := binaryBasic (noFlags andcmFn) ac m s

/-- ANDCMI (R218): b = `0,,E`, result to `AC[ac]`. -/
def execAndcmi (ac : AcNum) (m : AddrPart) (s : State) : Result := binaryImmediate (noFlags andcmFn) ac m s

/-- ANDCMM (R219): b = `C(E)`, result to `C(E)`. -/
def execAndcmm (ac : AcNum) (m : AddrPart) (s : State) : Result := binaryMemory (noFlags andcmFn) ac m s

/-- ANDCMB (R220): b = `C(E)`, result to `C(E)`, then `AC[ac]`. -/
def execAndcmb (ac : AcNum) (m : AddrPart) (s : State) : Result := binaryBoth (noFlags andcmFn) ac m s

/-- SETA (R221): b = `C(E)`, result to `AC[ac]`. -/
def execSeta (ac : AcNum) (m : AddrPart) (s : State) : Result := binaryBasic (noFlags firstFn) ac m s

/-- SETAI (R222): b = `0,,E`, result to `AC[ac]`. -/
def execSetai (ac : AcNum) (m : AddrPart) (s : State) : Result := binaryImmediate (noFlags firstFn) ac m s

/-- SETAM (R223): b = `C(E)`, result to `C(E)`. -/
def execSetam (ac : AcNum) (m : AddrPart) (s : State) : Result := binaryMemory (noFlags firstFn) ac m s

/-- SETAB (R224): b = `C(E)`, result to `C(E)`, then `AC[ac]`. -/
def execSetab (ac : AcNum) (m : AddrPart) (s : State) : Result := binaryBoth (noFlags firstFn) ac m s

/-- XOR (R225): b = `C(E)`, result to `AC[ac]`. -/
def execXor (ac : AcNum) (m : AddrPart) (s : State) : Result := binaryBasic (noFlags xorFn) ac m s

/-- XORI (R226): b = `0,,E`, result to `AC[ac]`. -/
def execXori (ac : AcNum) (m : AddrPart) (s : State) : Result := binaryImmediate (noFlags xorFn) ac m s

/-- XORM (R227): b = `C(E)`, result to `C(E)`. -/
def execXorm (ac : AcNum) (m : AddrPart) (s : State) : Result := binaryMemory (noFlags xorFn) ac m s

/-- XORB (R228): b = `C(E)`, result to `C(E)`, then `AC[ac]`. -/
def execXorb (ac : AcNum) (m : AddrPart) (s : State) : Result := binaryBoth (noFlags xorFn) ac m s

/-- IOR (R229): b = `C(E)`, result to `AC[ac]`. -/
def execIor (ac : AcNum) (m : AddrPart) (s : State) : Result := binaryBasic (noFlags iorFn) ac m s

/-- IORI (R230): b = `0,,E`, result to `AC[ac]`. -/
def execIori (ac : AcNum) (m : AddrPart) (s : State) : Result := binaryImmediate (noFlags iorFn) ac m s

/-- IORM (R231): b = `C(E)`, result to `C(E)`. -/
def execIorm (ac : AcNum) (m : AddrPart) (s : State) : Result := binaryMemory (noFlags iorFn) ac m s

/-- IORB (R232): b = `C(E)`, result to `C(E)`, then `AC[ac]`. -/
def execIorb (ac : AcNum) (m : AddrPart) (s : State) : Result := binaryBoth (noFlags iorFn) ac m s

/-- ANDCB (R233): b = `C(E)`, result to `AC[ac]`. -/
def execAndcb (ac : AcNum) (m : AddrPart) (s : State) : Result := binaryBasic (noFlags andcbFn) ac m s

/-- ANDCBI (R234): b = `0,,E`, result to `AC[ac]`. -/
def execAndcbi (ac : AcNum) (m : AddrPart) (s : State) : Result := binaryImmediate (noFlags andcbFn) ac m s

/-- ANDCBM (R235): b = `C(E)`, result to `C(E)`. -/
def execAndcbm (ac : AcNum) (m : AddrPart) (s : State) : Result := binaryMemory (noFlags andcbFn) ac m s

/-- ANDCBB (R236): b = `C(E)`, result to `C(E)`, then `AC[ac]`. -/
def execAndcbb (ac : AcNum) (m : AddrPart) (s : State) : Result := binaryBoth (noFlags andcbFn) ac m s

/-- EQV (R237): b = `C(E)`, result to `AC[ac]`. -/
def execEqv (ac : AcNum) (m : AddrPart) (s : State) : Result := binaryBasic (noFlags eqvFn) ac m s

/-- EQVI (R238): b = `0,,E`, result to `AC[ac]`. -/
def execEqvi (ac : AcNum) (m : AddrPart) (s : State) : Result := binaryImmediate (noFlags eqvFn) ac m s

/-- EQVM (R239): b = `C(E)`, result to `C(E)`. -/
def execEqvm (ac : AcNum) (m : AddrPart) (s : State) : Result := binaryMemory (noFlags eqvFn) ac m s

/-- EQVB (R240): b = `C(E)`, result to `C(E)`, then `AC[ac]`. -/
def execEqvb (ac : AcNum) (m : AddrPart) (s : State) : Result := binaryBoth (noFlags eqvFn) ac m s

/-- SETCA (R241): b = `C(E)`, result to `AC[ac]`. -/
def execSetca (ac : AcNum) (m : AddrPart) (s : State) : Result := binaryBasic (noFlags notFirstFn) ac m s

/-- SETCAI (R242): b = `0,,E`, result to `AC[ac]`. -/
def execSetcai (ac : AcNum) (m : AddrPart) (s : State) : Result := binaryImmediate (noFlags notFirstFn) ac m s

/-- SETCAM (R243): b = `C(E)`, result to `C(E)`. -/
def execSetcam (ac : AcNum) (m : AddrPart) (s : State) : Result := binaryMemory (noFlags notFirstFn) ac m s

/-- SETCAB (R244): b = `C(E)`, result to `C(E)`, then `AC[ac]`. -/
def execSetcab (ac : AcNum) (m : AddrPart) (s : State) : Result := binaryBoth (noFlags notFirstFn) ac m s

/-- ORCA (R245): b = `C(E)`, result to `AC[ac]`. -/
def execOrca (ac : AcNum) (m : AddrPart) (s : State) : Result := binaryBasic (noFlags orcaFn) ac m s

/-- ORCAI (R246): b = `0,,E`, result to `AC[ac]`. -/
def execOrcai (ac : AcNum) (m : AddrPart) (s : State) : Result := binaryImmediate (noFlags orcaFn) ac m s

/-- ORCAM (R247): b = `C(E)`, result to `C(E)`. -/
def execOrcam (ac : AcNum) (m : AddrPart) (s : State) : Result := binaryMemory (noFlags orcaFn) ac m s

/-- ORCAB (R248): b = `C(E)`, result to `C(E)`, then `AC[ac]`. -/
def execOrcab (ac : AcNum) (m : AddrPart) (s : State) : Result := binaryBoth (noFlags orcaFn) ac m s

/-- SETCM (R249): b = `C(E)`, result to `AC[ac]`. -/
def execSetcm (ac : AcNum) (m : AddrPart) (s : State) : Result := binaryBasic (noFlags notSecondFn) ac m s

/-- SETCMI (R250): b = `0,,E`, result to `AC[ac]`. -/
def execSetcmi (ac : AcNum) (m : AddrPart) (s : State) : Result := binaryImmediate (noFlags notSecondFn) ac m s

/-- SETCMM (R251): b = `C(E)`, result to `C(E)`. -/
def execSetcmm (ac : AcNum) (m : AddrPart) (s : State) : Result := binaryMemory (noFlags notSecondFn) ac m s

/-- SETCMB (R252): b = `C(E)`, result to `C(E)`, then `AC[ac]`. -/
def execSetcmb (ac : AcNum) (m : AddrPart) (s : State) : Result := binaryBoth (noFlags notSecondFn) ac m s

/-- ORCM (R253): b = `C(E)`, result to `AC[ac]`. -/
def execOrcm (ac : AcNum) (m : AddrPart) (s : State) : Result := binaryBasic (noFlags orcmFn) ac m s

/-- ORCMI (R254): b = `0,,E`, result to `AC[ac]`. -/
def execOrcmi (ac : AcNum) (m : AddrPart) (s : State) : Result := binaryImmediate (noFlags orcmFn) ac m s

/-- ORCMM (R255): b = `C(E)`, result to `C(E)`. -/
def execOrcmm (ac : AcNum) (m : AddrPart) (s : State) : Result := binaryMemory (noFlags orcmFn) ac m s

/-- ORCMB (R256): b = `C(E)`, result to `C(E)`, then `AC[ac]`. -/
def execOrcmb (ac : AcNum) (m : AddrPart) (s : State) : Result := binaryBoth (noFlags orcmFn) ac m s

/-- ORCB (R257): b = `C(E)`, result to `AC[ac]`. -/
def execOrcb (ac : AcNum) (m : AddrPart) (s : State) : Result := binaryBasic (noFlags orcbFn) ac m s

/-- ORCBI (R258): b = `0,,E`, result to `AC[ac]`. -/
def execOrcbi (ac : AcNum) (m : AddrPart) (s : State) : Result := binaryImmediate (noFlags orcbFn) ac m s

/-- ORCBM (R259): b = `C(E)`, result to `C(E)`. -/
def execOrcbm (ac : AcNum) (m : AddrPart) (s : State) : Result := binaryMemory (noFlags orcbFn) ac m s

/-- ORCBB (R260): b = `C(E)`, result to `C(E)`, then `AC[ac]`. -/
def execOrcbb (ac : AcNum) (m : AddrPart) (s : State) : Result := binaryBoth (noFlags orcbFn) ac m s

/-- SETO (R261): b = `C(E)`, result to `AC[ac]`. -/
def execSeto (ac : AcNum) (m : AddrPart) (s : State) : Result := binaryBasic (noFlags onesFn) ac m s

/-- SETOI (R262): b = `0,,E`, result to `AC[ac]`. -/
def execSetoi (ac : AcNum) (m : AddrPart) (s : State) : Result := binaryImmediate (noFlags onesFn) ac m s

/-- SETOM (R263): b = `C(E)`, result to `C(E)`. -/
def execSetom (ac : AcNum) (m : AddrPart) (s : State) : Result := binaryMemory (noFlags onesFn) ac m s

/-- SETOB (R264): b = `C(E)`, result to `C(E)`, then `AC[ac]`. -/
def execSetob (ac : AcNum) (m : AddrPart) (s : State) : Result := binaryBoth (noFlags onesFn) ac m s

end Sys2Proof.Machine
end

