-- ==== Sys2Proof/Machine/Byte.lean ====
section
/-!
DEFINITION. Byte pointers and the byte instructions (R550 to R561).
-/

namespace Sys2Proof.Machine

/-- The three encodings of a byte pointer (R550). -/
inductive PointerKind where
  | local1 | global1 | global2
  deriving DecidableEq, Repr

/-- Bits 0-5 of a pointer: position, or the Global-1 code (R550). -/
def pointerCode (w : Word) : Nat := (w.extractLsb' 30 6).toNat

/-- Bits 6-11 of a pointer: the size (R550). -/
def pointerSize (w : Word) : Nat := (w.extractLsb' 24 6).toNat

/-- Bits 6-35: the 30-bit address of a global pointer (R550). -/
def globalAddress (w : Word) : VAddr := w.extractLsb' 0 30

/-- The selector: the Global-1 test first, then the marker bit 12 (R550). -/
def pointerKind (w : Word) : PointerKind :=
  if 36 < pointerCode w then .global1 else if w.getLsbD 23 then .global2 else .local1

/-- The Global-1 table: size and position of codes 045 to 076 in order (R550). -/
def global1Table : List (Nat × Nat) :=
  [(6, 36), (6, 30), (6, 24), (6, 18), (6, 12), (6, 6), (6, 0),
   (8, 36), (8, 28), (8, 20), (8, 12), (8, 4),
   (7, 36), (7, 29), (7, 22), (7, 15), (7, 8), (7, 1),
   (9, 36), (9, 27), (9, 18), (9, 9), (9, 0),
   (18, 36), (18, 18), (18, 0)]

/-- Size and position of a Global-1 code; code 077 is not in the table (R550). -/
def global1Entry (code : Nat) : Except Fault (Nat × Nat) :=
  match global1Table[code - 0o45]? with
  | some x => .ok x
  | none => .error .badBytePointer

/-- The code of a size and position of the table (R560). -/
def global1Code (size position : Nat) : Nat := 0o45 + global1Table.idxOf (size, position)

/-- A pointer's first word with bits 0-5 replaced. -/
def withPosition (w : Word) (p : Nat) : Word := BitVec.ofNat 6 p ++ w.extractLsb' 0 30

/-- A word with bits 6-35 replaced. -/
def withGlobalAddress (w : Word) (a : VAddr) : Word := w.extractLsb' 30 6 ++ a

/-- A word with bits 18-35 replaced. -/
def withRightHalf (w : Word) (y : Half) : Word := joinHalves (lh w) y

/-- The address of a Global-2 pointer: the second word's address, indexed by the whole accumulator mod 2^30, then one
indirect word whose own I, X, Y are resolved by the ordinary rule (R551, log 13). -/
def State.global2Address (s : State) (w w2 : Word) : Except Fault VAddr :=
  let ap := AddrPart.ofWord w
  let a : VAddr := if ap.index = 0 then globalAddress w2 else globalAddress w2 + (s.ac ap.index).setWidth 30
  if ap.indirect then do
    let iw ← s.readMem a
    let r ← s.resolve (AddrPart.ofWord iw) iw
    pure (inSection a r.1)
  else .ok a

/-- `getPSA(E)`: position, size, address (R551). -/
def State.getPSA (s : State) (e : Offset) : Except Fault (Nat × Nat × VAddr) := do
  let w ← s.readMem (s.sec e)
  match pointerKind w with
  | .global1 => do
    let x ← global1Entry (pointerCode w)
    pure (x.2, x.1, globalAddress w)
  | .global2 => do
    let w2 ← s.readMem (s.sec (e + 1))
    let a ← s.global2Address w w2
    pure (pointerCode w, pointerSize w, a)
  | .local1 => do
    let r ← s.resolve (AddrPart.ofWord w) w
    pure (pointerCode w, pointerSize w, s.sec r.1)

/-- The field of `size` bits with `position` bits to its right, right-justified (R552). -/
def byteOf (position size : Nat) (w : Word) : Word := BitVec.ofNat 36 (w.toNat / 2 ^ position % 2 ^ size)

/-- The word with that field replaced by the low bits of a value (R552). -/
def depositByte (position size : Nat) (old v : Word) : Word :=
  BitVec.ofNat 36 (old.toNat - (old.toNat / 2 ^ position % 2 ^ size) * 2 ^ position
    + (v.toNat % 2 ^ size) * 2 ^ position)

/-- `putByte` (R552). -/
def State.putByte (s : State) (position size : Nat) (a : VAddr) (v : Word) : Except Fault State := do
  let old ← s.readMem a
  s.writeMem a (depositByte position size old v)

/-- A Global-1 pointer advanced by one byte (R553). -/
def nextGlobal1 (w : Word) (size position : Nat) : Word :=
  if size ≤ position then withPosition w (pointerCode w + 1)
  else withPosition (withGlobalAddress w (globalAddress w + 1)) (global1Code size 36 + 1)

/-- `inc(E)` (R553). -/
def State.incPointer (s : State) (e : Offset) : Except Fault State := do
  let w ← s.readMem (s.sec e)
  let size := pointerSize w
  let carried := withPosition w ((100 - size) % 64)
  match pointerKind w with
  | .global1 => do
    let x ← global1Entry (pointerCode w)
    s.writeMem (s.sec e) (nextGlobal1 w x.1 x.2)
  | .global2 =>
    if size ≤ pointerCode w then s.writeMem (s.sec e) (withPosition w (pointerCode w - size))
    else do
      let w2 ← s.readMem (s.sec (e + 1))
      let t ← s.writeMem (s.sec e) carried
      t.writeMem (t.sec (e + 1)) (withGlobalAddress w2 (globalAddress w2 + 1))
  | .local1 =>
    if size ≤ pointerCode w then s.writeMem (s.sec e) (withPosition w (pointerCode w - size))
    else s.writeMem (s.sec e) (withRightHalf carried (rh w + 1))

/-- `inc(E)` unless FPD is 1 (R554, R556). -/
def State.firstPart (s : State) (e : Offset) : Except Fault State :=
  if s.flag .fpd then .ok s else s.incPointer e

/-- Load the byte a pointer names into `AC[ac]` (R555). -/
def State.loadByte (s : State) (ac : AcNum) (e : Offset) : Except Fault State := do
  let x ← s.getPSA e
  let w ← s.readMem x.2.2
  pure (s.setAc ac (byteOf x.1 x.2.1 w))

/-- Deposit the low bits of `AC[ac]` into the byte a pointer names (R557). -/
def State.depositAc (s : State) (ac : AcNum) (e : Offset) : Except Fault State := do
  let x ← s.getPSA e
  s.putByte x.1 x.2.1 x.2.2 (s.ac ac)

/-- Bytes per word of a pointer's alignment, for a size other than 0 (R559). -/
def bytesPerWord (position size : Nat) : Nat := (36 - position) / size + position / size

/-- `Adjust`: the new position and how many words the address moves (R559). -/
def adjustPointer (position size : Nat) (count : Int) : Nat × Int :=
  let l := (36 - position) / size
  let bpw : Int := bytesPerWord position size
  let n := count + (l : Int)
  let q := (n - 1) / bpw
  ((36 - (n - q * bpw) * (size : Int) - (((36 - position) % size : Nat) : Int)).toNat, q)

/-- IBP (R558): increment the pointer at E. -/
def execIbp (m : AddrPart) (s : State) : Result :=
  finish do
  let e ← s.effective m
  let t ← s.incPointer e
  pure t.normal

/-- Size and position of the pointer an ADJBP adjusts (R560). -/
def adjustFields (w : Word) : Except Fault (Nat × Nat) :=
  match pointerKind w with
  | .global1 => global1Entry (pointerCode w)
  | _ => .ok (pointerSize w, pointerCode w)

/-- The second word of the pointer, read for Global-2 only (R560). -/
def State.secondPointerWord (s : State) (e : Offset) (w : Word) : Except Fault Word :=
  match pointerKind w with
  | .global2 => s.readMem (s.sec (e + 1))
  | _ => .ok 0

/-- The pointer written to the accumulators: one word, or two for Global-2 (R560). -/
def State.setPointer (s : State) (ac : AcNum) (kind : PointerKind) (w w2 : Word) : State :=
  match kind with
  | .global2 => s.setAcPair ac (w, w2)
  | _ => s.setAc ac w

/-- The adjusted pointer's words (R560). -/
def adjustedWords (w w2 : Word) (size : Nat) (x : Nat × Int) : Word × Word :=
  match pointerKind w with
  | .local1 => (withRightHalf (withPosition w x.1) (rh w + BitVec.ofInt 18 x.2), w2)
  | .global1 => (withPosition (withGlobalAddress w (globalAddress w + BitVec.ofInt 30 x.2)) (global1Code size x.1), w2)
  | .global2 => (withPosition w x.1, withGlobalAddress w2 (globalAddress w2 + BitVec.ofInt 30 x.2))

/-- ADJBP (R560): the pointer at E moved by `S(AC[ac])` bytes, to `AC[ac]` (and `AC[ac+1]`). -/
def execAdjbp (ac : AcNum) (m : AddrPart) (s : State) : Result :=
  finish do
  let e ← s.effective m
  let w ← s.readMem (s.sec e)
  let f ← adjustFields w
  let w2 ← s.secondPointerWord e w
  if f.1 = 0 then pure ((s.setPointer ac (pointerKind w) w w2).normal)
  else if bytesPerWord f.2 f.1 = 0 then pure s.noDivideNext
  else
    let v := adjustedWords w w2 f.1 (adjustPointer f.2 f.1 (s.ac ac).toInt)
    pure ((s.setPointer ac (pointerKind w) v.1 v.2).normal)

/-- ILDB (R554): increment unless FPD, load byte, clear FPD. -/
def execIldb (ac : AcNum) (m : AddrPart) (s : State) : Result :=
  finish do
  let e ← s.effective m
  let s ← s.firstPart e
  let t ← s.loadByte ac e
  pure ((t.clearFlags Flag.fpd.mask).normal)

/-- LDB (R555): load byte. -/
def execLdb (ac : AcNum) (m : AddrPart) (s : State) : Result :=
  finish do
  let e ← s.effective m
  let t ← s.loadByte ac e
  pure t.normal

/-- IDPB (R556): increment unless FPD, deposit byte, clear FPD. -/
def execIdpb (ac : AcNum) (m : AddrPart) (s : State) : Result :=
  finish do
  let e ← s.effective m
  let s ← s.firstPart e
  let t ← s.depositAc ac e
  pure ((t.clearFlags Flag.fpd.mask).normal)

/-- DPB (R557): deposit byte. -/
def execDpb (ac : AcNum) (m : AddrPart) (s : State) : Result :=
  finish do
  let e ← s.effective m
  let t ← s.depositAc ac e
  pure t.normal

end Sys2Proof.Machine
end

