-- ==== Sys2Proof/Machine/Uuo.lean ====
section
/-!
DEFINITION. Monitor calls, local calls and unassigned opcodes (R580 to R583).
-/

namespace Sys2Proof.Machine

/-- Opcode and `ac` field together, bits 0-12 of the word. -/
def callHead (op : BitVec 9) (ac : AcNum) : BitVec 13 := op ++ ac

/-- A monitor call (R581). -/
def monitorCall (op : BitVec 9) (ac : AcNum) (m : AddrPart) (s : State) : Result := finish do
  let e ← s.effective m
  s.raiseMuuo (callHead op ac) e

/-- An opcode or JRST function with no handler (R582, R518). -/
def unassignedCall (op : BitVec 9) (ac : AcNum) (m : AddrPart) (s : State) : Result := finish do
  let e ← s.effective m
  s.raiseUnassigned (callHead op ac) e

/-- A local call: the word at `sec(040)` is written, then the one at `sec(041)` is re-dispatched (R580). -/
def localCall (op : BitVec 9) (ac : AcNum) (m : AddrPart) (s : State) : Result := finish do
  let e ← s.effective m
  let t ← s.writeMem (s.sec 0o40) (callWord (callHead op ac) e)
  let w ← t.readMem (t.sec 0o41)
  pure (t.redispatchWith w)

/-- MUUO (R581): monitor call. -/
def execMuuo (ac : AcNum) (m : AddrPart) (s : State) : Result := monitorCall 0o000 ac m s

/-- LUUO 001 (R580): local call. -/
def execLuuo001 (ac : AcNum) (m : AddrPart) (s : State) : Result := localCall 0o001 ac m s

/-- LUUO 002 (R580): local call. -/
def execLuuo002 (ac : AcNum) (m : AddrPart) (s : State) : Result := localCall 0o002 ac m s

/-- LUUO 003 (R580): local call. -/
def execLuuo003 (ac : AcNum) (m : AddrPart) (s : State) : Result := localCall 0o003 ac m s

/-- LUUO 004 (R580): local call. -/
def execLuuo004 (ac : AcNum) (m : AddrPart) (s : State) : Result := localCall 0o004 ac m s

/-- LUUO 005 (R580): local call. -/
def execLuuo005 (ac : AcNum) (m : AddrPart) (s : State) : Result := localCall 0o005 ac m s

/-- LUUO 006 (R580): local call. -/
def execLuuo006 (ac : AcNum) (m : AddrPart) (s : State) : Result := localCall 0o006 ac m s

/-- LUUO 007 (R580): local call. -/
def execLuuo007 (ac : AcNum) (m : AddrPart) (s : State) : Result := localCall 0o007 ac m s

/-- LUUO 010 (R580): local call. -/
def execLuuo010 (ac : AcNum) (m : AddrPart) (s : State) : Result := localCall 0o010 ac m s

/-- LUUO 011 (R580): local call. -/
def execLuuo011 (ac : AcNum) (m : AddrPart) (s : State) : Result := localCall 0o011 ac m s

/-- LUUO 012 (R580): local call. -/
def execLuuo012 (ac : AcNum) (m : AddrPart) (s : State) : Result := localCall 0o012 ac m s

/-- LUUO 013 (R580): local call. -/
def execLuuo013 (ac : AcNum) (m : AddrPart) (s : State) : Result := localCall 0o013 ac m s

/-- LUUO 014 (R580): local call. -/
def execLuuo014 (ac : AcNum) (m : AddrPart) (s : State) : Result := localCall 0o014 ac m s

/-- LUUO 015 (R580): local call. -/
def execLuuo015 (ac : AcNum) (m : AddrPart) (s : State) : Result := localCall 0o015 ac m s

/-- LUUO 016 (R580): local call. -/
def execLuuo016 (ac : AcNum) (m : AddrPart) (s : State) : Result := localCall 0o016 ac m s

/-- LUUO 017 (R580): local call. -/
def execLuuo017 (ac : AcNum) (m : AddrPart) (s : State) : Result := localCall 0o017 ac m s

/-- LUUO 020 (R580): local call. -/
def execLuuo020 (ac : AcNum) (m : AddrPart) (s : State) : Result := localCall 0o020 ac m s

/-- LUUO 021 (R580): local call. -/
def execLuuo021 (ac : AcNum) (m : AddrPart) (s : State) : Result := localCall 0o021 ac m s

/-- LUUO 022 (R580): local call. -/
def execLuuo022 (ac : AcNum) (m : AddrPart) (s : State) : Result := localCall 0o022 ac m s

/-- LUUO 023 (R580): local call. -/
def execLuuo023 (ac : AcNum) (m : AddrPart) (s : State) : Result := localCall 0o023 ac m s

/-- LUUO 024 (R580): local call. -/
def execLuuo024 (ac : AcNum) (m : AddrPart) (s : State) : Result := localCall 0o024 ac m s

/-- LUUO 025 (R580): local call. -/
def execLuuo025 (ac : AcNum) (m : AddrPart) (s : State) : Result := localCall 0o025 ac m s

/-- LUUO 026 (R580): local call. -/
def execLuuo026 (ac : AcNum) (m : AddrPart) (s : State) : Result := localCall 0o026 ac m s

/-- LUUO 027 (R580): local call. -/
def execLuuo027 (ac : AcNum) (m : AddrPart) (s : State) : Result := localCall 0o027 ac m s

/-- LUUO 030 (R580): local call. -/
def execLuuo030 (ac : AcNum) (m : AddrPart) (s : State) : Result := localCall 0o030 ac m s

/-- LUUO 031 (R580): local call. -/
def execLuuo031 (ac : AcNum) (m : AddrPart) (s : State) : Result := localCall 0o031 ac m s

/-- LUUO 032 (R580): local call. -/
def execLuuo032 (ac : AcNum) (m : AddrPart) (s : State) : Result := localCall 0o032 ac m s

/-- LUUO 033 (R580): local call. -/
def execLuuo033 (ac : AcNum) (m : AddrPart) (s : State) : Result := localCall 0o033 ac m s

/-- LUUO 034 (R580): local call. -/
def execLuuo034 (ac : AcNum) (m : AddrPart) (s : State) : Result := localCall 0o034 ac m s

/-- LUUO 035 (R580): local call. -/
def execLuuo035 (ac : AcNum) (m : AddrPart) (s : State) : Result := localCall 0o035 ac m s

/-- LUUO 036 (R580): local call. -/
def execLuuo036 (ac : AcNum) (m : AddrPart) (s : State) : Result := localCall 0o036 ac m s

/-- LUUO 037 (R580): local call. -/
def execLuuo037 (ac : AcNum) (m : AddrPart) (s : State) : Result := localCall 0o037 ac m s

/-- MUUO 040 (R581): monitor call. -/
def execMuuo040 (ac : AcNum) (m : AddrPart) (s : State) : Result := monitorCall 0o040 ac m s

/-- MUUO 041 (R581): monitor call. -/
def execMuuo041 (ac : AcNum) (m : AddrPart) (s : State) : Result := monitorCall 0o041 ac m s

/-- MUUO 042 (R581): monitor call. -/
def execMuuo042 (ac : AcNum) (m : AddrPart) (s : State) : Result := monitorCall 0o042 ac m s

/-- MUUO 043 (R581): monitor call. -/
def execMuuo043 (ac : AcNum) (m : AddrPart) (s : State) : Result := monitorCall 0o043 ac m s

/-- MUUO 044 (R581): monitor call. -/
def execMuuo044 (ac : AcNum) (m : AddrPart) (s : State) : Result := monitorCall 0o044 ac m s

/-- MUUO 045 (R581): monitor call. -/
def execMuuo045 (ac : AcNum) (m : AddrPart) (s : State) : Result := monitorCall 0o045 ac m s

/-- MUUO 046 (R581): monitor call. -/
def execMuuo046 (ac : AcNum) (m : AddrPart) (s : State) : Result := monitorCall 0o046 ac m s

/-- MUUO 047 (R581): monitor call. -/
def execMuuo047 (ac : AcNum) (m : AddrPart) (s : State) : Result := monitorCall 0o047 ac m s

/-- MUUO 050 (R581): monitor call. -/
def execMuuo050 (ac : AcNum) (m : AddrPart) (s : State) : Result := monitorCall 0o050 ac m s

/-- MUUO 051 (R581): monitor call. -/
def execMuuo051 (ac : AcNum) (m : AddrPart) (s : State) : Result := monitorCall 0o051 ac m s

/-- MUUO 052 (R581): monitor call. -/
def execMuuo052 (ac : AcNum) (m : AddrPart) (s : State) : Result := monitorCall 0o052 ac m s

/-- MUUO 053 (R581): monitor call. -/
def execMuuo053 (ac : AcNum) (m : AddrPart) (s : State) : Result := monitorCall 0o053 ac m s

/-- MUUO 054 (R581): monitor call. -/
def execMuuo054 (ac : AcNum) (m : AddrPart) (s : State) : Result := monitorCall 0o054 ac m s

/-- MUUO 055 (R581): monitor call. -/
def execMuuo055 (ac : AcNum) (m : AddrPart) (s : State) : Result := monitorCall 0o055 ac m s

/-- MUUO 056 (R581): monitor call. -/
def execMuuo056 (ac : AcNum) (m : AddrPart) (s : State) : Result := monitorCall 0o056 ac m s

/-- MUUO 057 (R581): monitor call. -/
def execMuuo057 (ac : AcNum) (m : AddrPart) (s : State) : Result := monitorCall 0o057 ac m s

/-- MUUO 060 (R581): monitor call. -/
def execMuuo060 (ac : AcNum) (m : AddrPart) (s : State) : Result := monitorCall 0o060 ac m s

/-- MUUO 061 (R581): monitor call. -/
def execMuuo061 (ac : AcNum) (m : AddrPart) (s : State) : Result := monitorCall 0o061 ac m s

/-- MUUO 062 (R581): monitor call. -/
def execMuuo062 (ac : AcNum) (m : AddrPart) (s : State) : Result := monitorCall 0o062 ac m s

/-- MUUO 063 (R581): monitor call. -/
def execMuuo063 (ac : AcNum) (m : AddrPart) (s : State) : Result := monitorCall 0o063 ac m s

/-- MUUO 064 (R581): monitor call. -/
def execMuuo064 (ac : AcNum) (m : AddrPart) (s : State) : Result := monitorCall 0o064 ac m s

/-- MUUO 065 (R581): monitor call. -/
def execMuuo065 (ac : AcNum) (m : AddrPart) (s : State) : Result := monitorCall 0o065 ac m s

/-- MUUO 066 (R581): monitor call. -/
def execMuuo066 (ac : AcNum) (m : AddrPart) (s : State) : Result := monitorCall 0o066 ac m s

/-- MUUO 067 (R581): monitor call. -/
def execMuuo067 (ac : AcNum) (m : AddrPart) (s : State) : Result := monitorCall 0o067 ac m s

/-- MUUO 070 (R581): monitor call. -/
def execMuuo070 (ac : AcNum) (m : AddrPart) (s : State) : Result := monitorCall 0o070 ac m s

/-- MUUO 071 (R581): monitor call. -/
def execMuuo071 (ac : AcNum) (m : AddrPart) (s : State) : Result := monitorCall 0o071 ac m s

/-- MUUO 072 (R581): monitor call. -/
def execMuuo072 (ac : AcNum) (m : AddrPart) (s : State) : Result := monitorCall 0o072 ac m s

/-- MUUO 073 (R581): monitor call. -/
def execMuuo073 (ac : AcNum) (m : AddrPart) (s : State) : Result := monitorCall 0o073 ac m s

/-- MUUO 074 (R581): monitor call. -/
def execMuuo074 (ac : AcNum) (m : AddrPart) (s : State) : Result := monitorCall 0o074 ac m s

/-- MUUO 075 (R581): monitor call. -/
def execMuuo075 (ac : AcNum) (m : AddrPart) (s : State) : Result := monitorCall 0o075 ac m s

/-- MUUO 076 (R581): monitor call. -/
def execMuuo076 (ac : AcNum) (m : AddrPart) (s : State) : Result := monitorCall 0o076 ac m s

/-- MUUO 077 (R581): monitor call. -/
def execMuuo077 (ac : AcNum) (m : AddrPart) (s : State) : Result := monitorCall 0o077 ac m s

/-- UNASSIGNED 100 (R582): no handler. -/
def execUnassigned100 (ac : AcNum) (m : AddrPart) (s : State) : Result := unassignedCall 0o100 ac m s

/-- UNASSIGNED 101 (R582): no handler. -/
def execUnassigned101 (ac : AcNum) (m : AddrPart) (s : State) : Result := unassignedCall 0o101 ac m s

/-- UNASSIGNED 102 (R582): no handler. -/
def execUnassigned102 (ac : AcNum) (m : AddrPart) (s : State) : Result := unassignedCall 0o102 ac m s

/-- UNASSIGNED 103 (R582): no handler. -/
def execUnassigned103 (ac : AcNum) (m : AddrPart) (s : State) : Result := unassignedCall 0o103 ac m s

/-- UNASSIGNED 104 (R582): no handler. -/
def execUnassigned104 (ac : AcNum) (m : AddrPart) (s : State) : Result := unassignedCall 0o104 ac m s

/-- UNASSIGNED 106 (R582): no handler. -/
def execUnassigned106 (ac : AcNum) (m : AddrPart) (s : State) : Result := unassignedCall 0o106 ac m s

/-- UNASSIGNED 107 (R582): no handler. -/
def execUnassigned107 (ac : AcNum) (m : AddrPart) (s : State) : Result := unassignedCall 0o107 ac m s

/-- UNASSIGNED 110 (R582): no handler. -/
def execUnassigned110 (ac : AcNum) (m : AddrPart) (s : State) : Result := unassignedCall 0o110 ac m s

/-- UNASSIGNED 111 (R582): no handler. -/
def execUnassigned111 (ac : AcNum) (m : AddrPart) (s : State) : Result := unassignedCall 0o111 ac m s

/-- UNASSIGNED 112 (R582): no handler. -/
def execUnassigned112 (ac : AcNum) (m : AddrPart) (s : State) : Result := unassignedCall 0o112 ac m s

/-- UNASSIGNED 113 (R582): no handler. -/
def execUnassigned113 (ac : AcNum) (m : AddrPart) (s : State) : Result := unassignedCall 0o113 ac m s

/-- UNASSIGNED 122 (R582): no handler. -/
def execUnassigned122 (ac : AcNum) (m : AddrPart) (s : State) : Result := unassignedCall 0o122 ac m s

/-- UNASSIGNED 123 (R582): no handler. -/
def execUnassigned123 (ac : AcNum) (m : AddrPart) (s : State) : Result := unassignedCall 0o123 ac m s

/-- UNASSIGNED 126 (R582): no handler. -/
def execUnassigned126 (ac : AcNum) (m : AddrPart) (s : State) : Result := unassignedCall 0o126 ac m s

/-- UNASSIGNED 127 (R582): no handler. -/
def execUnassigned127 (ac : AcNum) (m : AddrPart) (s : State) : Result := unassignedCall 0o127 ac m s

/-- UNASSIGNED 130 (R582): no handler. -/
def execUnassigned130 (ac : AcNum) (m : AddrPart) (s : State) : Result := unassignedCall 0o130 ac m s

/-- UNASSIGNED 131 (R582): no handler. -/
def execUnassigned131 (ac : AcNum) (m : AddrPart) (s : State) : Result := unassignedCall 0o131 ac m s

/-- UNASSIGNED 132 (R582): no handler. -/
def execUnassigned132 (ac : AcNum) (m : AddrPart) (s : State) : Result := unassignedCall 0o132 ac m s

/-- UNASSIGNED 140 (R582): no handler. -/
def execUnassigned140 (ac : AcNum) (m : AddrPart) (s : State) : Result := unassignedCall 0o140 ac m s

/-- UNASSIGNED 141 (R582): no handler. -/
def execUnassigned141 (ac : AcNum) (m : AddrPart) (s : State) : Result := unassignedCall 0o141 ac m s

/-- UNASSIGNED 142 (R582): no handler. -/
def execUnassigned142 (ac : AcNum) (m : AddrPart) (s : State) : Result := unassignedCall 0o142 ac m s

/-- UNASSIGNED 143 (R582): no handler. -/
def execUnassigned143 (ac : AcNum) (m : AddrPart) (s : State) : Result := unassignedCall 0o143 ac m s

/-- UNASSIGNED 144 (R582): no handler. -/
def execUnassigned144 (ac : AcNum) (m : AddrPart) (s : State) : Result := unassignedCall 0o144 ac m s

/-- UNASSIGNED 145 (R582): no handler. -/
def execUnassigned145 (ac : AcNum) (m : AddrPart) (s : State) : Result := unassignedCall 0o145 ac m s

/-- UNASSIGNED 146 (R582): no handler. -/
def execUnassigned146 (ac : AcNum) (m : AddrPart) (s : State) : Result := unassignedCall 0o146 ac m s

/-- UNASSIGNED 147 (R582): no handler. -/
def execUnassigned147 (ac : AcNum) (m : AddrPart) (s : State) : Result := unassignedCall 0o147 ac m s

/-- UNASSIGNED 150 (R582): no handler. -/
def execUnassigned150 (ac : AcNum) (m : AddrPart) (s : State) : Result := unassignedCall 0o150 ac m s

/-- UNASSIGNED 151 (R582): no handler. -/
def execUnassigned151 (ac : AcNum) (m : AddrPart) (s : State) : Result := unassignedCall 0o151 ac m s

/-- UNASSIGNED 152 (R582): no handler. -/
def execUnassigned152 (ac : AcNum) (m : AddrPart) (s : State) : Result := unassignedCall 0o152 ac m s

/-- UNASSIGNED 153 (R582): no handler. -/
def execUnassigned153 (ac : AcNum) (m : AddrPart) (s : State) : Result := unassignedCall 0o153 ac m s

/-- UNASSIGNED 154 (R582): no handler. -/
def execUnassigned154 (ac : AcNum) (m : AddrPart) (s : State) : Result := unassignedCall 0o154 ac m s

/-- UNASSIGNED 155 (R582): no handler. -/
def execUnassigned155 (ac : AcNum) (m : AddrPart) (s : State) : Result := unassignedCall 0o155 ac m s

/-- UNASSIGNED 156 (R582): no handler. -/
def execUnassigned156 (ac : AcNum) (m : AddrPart) (s : State) : Result := unassignedCall 0o156 ac m s

/-- UNASSIGNED 157 (R582): no handler. -/
def execUnassigned157 (ac : AcNum) (m : AddrPart) (s : State) : Result := unassignedCall 0o157 ac m s

/-- UNASSIGNED 160 (R582): no handler. -/
def execUnassigned160 (ac : AcNum) (m : AddrPart) (s : State) : Result := unassignedCall 0o160 ac m s

/-- UNASSIGNED 161 (R582): no handler. -/
def execUnassigned161 (ac : AcNum) (m : AddrPart) (s : State) : Result := unassignedCall 0o161 ac m s

/-- UNASSIGNED 162 (R582): no handler. -/
def execUnassigned162 (ac : AcNum) (m : AddrPart) (s : State) : Result := unassignedCall 0o162 ac m s

/-- UNASSIGNED 163 (R582): no handler. -/
def execUnassigned163 (ac : AcNum) (m : AddrPart) (s : State) : Result := unassignedCall 0o163 ac m s

/-- UNASSIGNED 164 (R582): no handler. -/
def execUnassigned164 (ac : AcNum) (m : AddrPart) (s : State) : Result := unassignedCall 0o164 ac m s

/-- UNASSIGNED 165 (R582): no handler. -/
def execUnassigned165 (ac : AcNum) (m : AddrPart) (s : State) : Result := unassignedCall 0o165 ac m s

/-- UNASSIGNED 166 (R582): no handler. -/
def execUnassigned166 (ac : AcNum) (m : AddrPart) (s : State) : Result := unassignedCall 0o166 ac m s

/-- UNASSIGNED 167 (R582): no handler. -/
def execUnassigned167 (ac : AcNum) (m : AddrPart) (s : State) : Result := unassignedCall 0o167 ac m s

/-- UNASSIGNED 170 (R582): no handler. -/
def execUnassigned170 (ac : AcNum) (m : AddrPart) (s : State) : Result := unassignedCall 0o170 ac m s

/-- UNASSIGNED 171 (R582): no handler. -/
def execUnassigned171 (ac : AcNum) (m : AddrPart) (s : State) : Result := unassignedCall 0o171 ac m s

/-- UNASSIGNED 172 (R582): no handler. -/
def execUnassigned172 (ac : AcNum) (m : AddrPart) (s : State) : Result := unassignedCall 0o172 ac m s

/-- UNASSIGNED 173 (R582): no handler. -/
def execUnassigned173 (ac : AcNum) (m : AddrPart) (s : State) : Result := unassignedCall 0o173 ac m s

/-- UNASSIGNED 174 (R582): no handler. -/
def execUnassigned174 (ac : AcNum) (m : AddrPart) (s : State) : Result := unassignedCall 0o174 ac m s

/-- UNASSIGNED 175 (R582): no handler. -/
def execUnassigned175 (ac : AcNum) (m : AddrPart) (s : State) : Result := unassignedCall 0o175 ac m s

/-- UNASSIGNED 176 (R582): no handler. -/
def execUnassigned176 (ac : AcNum) (m : AddrPart) (s : State) : Result := unassignedCall 0o176 ac m s

/-- UNASSIGNED 177 (R582): no handler. -/
def execUnassigned177 (ac : AcNum) (m : AddrPart) (s : State) : Result := unassignedCall 0o177 ac m s

/-- UNASSIGNED 247 (R582): no handler. -/
def execUnassigned247 (ac : AcNum) (m : AddrPart) (s : State) : Result := unassignedCall 0o247 ac m s

/-- UNASSIGNED 257 (R582): no handler. -/
def execUnassigned257 (ac : AcNum) (m : AddrPart) (s : State) : Result := unassignedCall 0o257 ac m s

end Sys2Proof.Machine
end

