-- ==== Sys2Proof/Machine/Control.lean ====
section
/-!
DEFINITION. Program control and stack (R510 to R533).
-/

namespace Sys2Proof.Machine

/-- A jump to E with no other effect. -/
def plainJump (m : AddrPart) (s : State) : Result := finish do
  let e ← s.effective m
  pure (s.jumpTo e)

/-- What a privileged JRST function does: when `IOLegal` is false it raises MUUO instead (R515 to R517, R519). -/
def State.privileged (s : State) (head : BitVec 13) (e : Offset) (t : State) : Except Fault State :=
  if s.ioLegal then .ok t else s.raiseMuuo head e

/-- JRST (R511): `pc <- E`. -/
def execJrst (m : AddrPart) (s : State) : Result := plainJump m s

/-- PORTAL (R512): `pc <- E`; PUB unchanged. -/
def execPortal (m : AddrPart) (s : State) : Result := plainJump m s

/-- JRSTF (R514): flags from `lastWord`, then `pc <- E`. -/
def execJrstf (m : AddrPart) (s : State) : Result :=
  finish do
  let r ← s.resolve m (basicWord 0o254 0o02 m)
  pure ((s.restoreFlags r.2).jumpTo r.1)

/-- HALT (R515): `pc <- E`, RUNNING <- 0. -/
def execHalt (m : AddrPart) (s : State) : Result :=
  finish do
  let e ← s.effective m
  s.privileged (callHead 0o254 0o04) e { s.jumpTo e with running := false }

/-- JRST 10 (R516): dismiss the interrupt, `pc <- E`. -/
def execJrst10 (m : AddrPart) (s : State) : Result :=
  finish do
  let e ← s.effective m
  s.privileged (callHead 0o254 0o10) e (s.piDismiss.jumpTo e)

/-- JEN (R517): restore flags, dismiss, `pc <- E`. -/
def execJen (m : AddrPart) (s : State) : Result :=
  finish do
  let r ← s.resolve m (basicWord 0o254 0o12 m)
  s.privileged (callHead 0o254 0o12) r.1 ((s.restoreFlags r.2).piDismiss.jumpTo r.1)

/-- JRST 3 unassigned function (R518): no handler. -/
def execJrstFn3 (m : AddrPart) (s : State) : Result := unassignedCall 0o254 0o03 m s

/-- JRST 5 unassigned function (R518): no handler. -/
def execJrstFn5 (m : AddrPart) (s : State) : Result := unassignedCall 0o254 0o05 m s

/-- JRST 6 unassigned function (R518): no handler. -/
def execJrstFn6 (m : AddrPart) (s : State) : Result := unassignedCall 0o254 0o06 m s

/-- JRST 7 unassigned function (R518): no handler. -/
def execJrstFn7 (m : AddrPart) (s : State) : Result := unassignedCall 0o254 0o07 m s

/-- JRST 11 unassigned function (R518): no handler. -/
def execJrstFn11 (m : AddrPart) (s : State) : Result := unassignedCall 0o254 0o11 m s

/-- JRST 13 unassigned function (R518): no handler. -/
def execJrstFn13 (m : AddrPart) (s : State) : Result := unassignedCall 0o254 0o13 m s

/-- JRST 14 unassigned function (R518): no handler. -/
def execJrstFn14 (m : AddrPart) (s : State) : Result := unassignedCall 0o254 0o14 m s

/-- JRST 15 unassigned function (R518): no handler. -/
def execJrstFn15 (m : AddrPart) (s : State) : Result := unassignedCall 0o254 0o15 m s

/-- JRST 16 unassigned function (R518): no handler. -/
def execJrstFn16 (m : AddrPart) (s : State) : Result := unassignedCall 0o254 0o16 m s

/-- JRST 17 unassigned function (R518): no handler. -/
def execJrstFn17 (m : AddrPart) (s : State) : Result := unassignedCall 0o254 0o17 m s

/-- The four flags a JFCL selects: AOV, CRY0, CRY1, FOV by the bits of `ac` (R521). -/
def jfclMask (ac : AcNum) : BitVec 13 := ac ++ (0#9)

/-- JFCL (R521): clear the selected flags, jump if any was 1. -/
def execJfcl (ac : AcNum) (m : AddrPart) (s : State) : Result :=
  finish do
  let e ← s.effective m
  pure ((s.clearFlags (jfclMask ac)).jumpIf (s.flags &&& jfclMask ac != 0) e)

/-- XCT (R522): re-dispatch `C(E)`; the `ac` field is ignored. -/
def execXct (_ac : AcNum) (m : AddrPart) (s : State) : Result :=
  finish do
  let x ← s.operand m
  pure (s.redispatchWith x.2)

/-- JSR (R523): the return word to `C(E)`, jump to E + 1; the `ac` field is ignored. -/
def execJsr (_ac : AcNum) (m : AddrPart) (s : State) : Result :=
  finish do
  let e ← s.effective m
  let t ← s.clearOnSave.writeMem (s.sec e) s.savedWord
  pure (t.jumpTo (e + 1))

/-- JSP (R524): the return word to `AC[ac]`, jump to E. -/
def execJsp (ac : AcNum) (m : AddrPart) (s : State) : Result :=
  finish do
  let e ← s.effective m
  pure ((s.clearOnSave.setAc ac s.savedWord).jumpTo e)

/-- JSA (R525): `AC[ac]` to `C(E)`, `E,,nextPC` to `AC[ac]`, jump to E + 1. -/
def execJsa (ac : AcNum) (m : AddrPart) (s : State) : Result :=
  finish do
  let e ← s.effective m
  let t ← s.writeMem (s.sec e) (s.ac ac)
  pure ((t.setAc ac (joinHalves e (offsetOf s.returnPC))).jumpTo (e + 1))

/-- JRA (R526): `AC[ac]` reloaded from the address in its left half, jump to E. -/
def execJra (ac : AcNum) (m : AddrPart) (s : State) : Result :=
  finish do
  let e ← s.effective m
  let w ← s.readMem (s.sec (lh (s.ac ac)))
  pure ((s.setAc ac w).jumpTo e)

/-- TR2 when the condition holds (R530). -/
def State.setTrap2If (s : State) (c : Bool) : State := if c then s.setFlags Flag.tr2.mask else s

/-- PUSHJ (R527): push the return word, jump to E. -/
def execPushj (ac : AcNum) (m : AddrPart) (s : State) : Result :=
  finish do
  let e ← s.effective m
  let p := addHalves (s.ac ac) 1
  let t ← (s.setAc ac p).clearOnSave.writeMem (s.sec (rh p)) s.savedWord
  pure ((t.setTrap2If (lh p == 0)).jumpTo e)

/-- POPJ (R528): pop the return address and jump to it; E is resolved and ignored. -/
def execPopj (ac : AcNum) (m : AddrPart) (s : State) : Result :=
  finish do
  let _ ← s.effective m
  let w ← s.readMem (s.sec (rh (s.ac ac)))
  let p := addHalves (s.ac ac) (-1)
  pure (((s.setAc ac p).setTrap2If (lh p == BitVec.allOnes 18)).jumpTo (rh w))

/-- PUSH (R531): push `C(E)`. -/
def execPush (ac : AcNum) (m : AddrPart) (s : State) : Result :=
  finish do
  let x ← s.operand m
  let p := addHalves (s.ac ac) 1
  let t ← (s.setAc ac p).writeMem (s.sec (rh p)) x.2
  pure ((t.setTrap2If (lh p == 0)).normal)

/-- POP (R532): pop into `C(E)`. -/
def execPop (ac : AcNum) (m : AddrPart) (s : State) : Result :=
  finish do
  let e ← s.effective m
  let v ← s.readMem (s.sec (rh (s.ac ac)))
  let p := addHalves (s.ac ac) (-1)
  let t ← (s.setAc ac p).writeMem (s.sec e) v
  pure ((t.setTrap2If (lh p == BitVec.allOnes 18)).normal)

/-- Whether an adjustment takes the count half across zero in its own direction (R533). -/
def adjustCrosses (count e : Half) : Bool :=
  (decide (0 ≤ e.toInt) && decide (count.toInt < 0) && decide (0 ≤ (count + e).toInt))
    || (decide (e.toInt < 0) && decide (0 ≤ count.toInt) && decide ((count + e).toInt < 0))

/-- ADJSP (R533): E added to both halves of the stack pointer. -/
def execAdjsp (ac : AcNum) (m : AddrPart) (s : State) : Result :=
  finish do
  let e ← s.effective m
  pure (((s.setAc ac (addHalves (s.ac ac) e)).setTrap2If (adjustCrosses (lh (s.ac ac)) e)).normal)

end Sys2Proof.Machine
end

