-- ==== Sys2Proof/Machine/FullMove.lean ====
section
/-!
DEFINITION. The full-word move family (R120 to R142): MOVE, MOVS, MOVN, MOVM in four modes, EXCH, BLT, and the
double-word moves.
-/

namespace Sys2Proof.Machine

/-- MOVE's function: the word unchanged, no flags (R121). -/
def copied (v : Word) : Word × BitVec 13 := (v, 0)

/-- MOVS's function: the halves exchanged, no flags (R125). -/
def swapped (v : Word) : Word × BitVec 13 := (swapHalves v, 0)

/-- MOVE (R121): `C(E)`, the word to `AC[ac]`. -/
def execMove (ac : AcNum) (m : AddrPart) (s : State) : Result := unaryBasic copied ac m s

/-- MOVEI (R122): `0,,E`, the word to `AC[ac]`. -/
def execMovei (ac : AcNum) (m : AddrPart) (s : State) : Result := unaryImmediate copied ac m s

/-- MOVEM (R123): `AC[ac]`, the word to `C(E)`. -/
def execMovem (ac : AcNum) (m : AddrPart) (s : State) : Result := unaryMemory copied ac m s

/-- MOVES (R124): `C(E)`, the word to `C(E)` and, unless `ac` = 0, to `AC[ac]`. -/
def execMoves (ac : AcNum) (m : AddrPart) (s : State) : Result := unarySelf copied ac m s

/-- MOVS (R125): `C(E)`, the word, halves exchanged, to `AC[ac]`. -/
def execMovs (ac : AcNum) (m : AddrPart) (s : State) : Result := unaryBasic swapped ac m s

/-- MOVSI (R126): `0,,E`, the word, halves exchanged, to `AC[ac]`. -/
def execMovsi (ac : AcNum) (m : AddrPart) (s : State) : Result := unaryImmediate swapped ac m s

/-- MOVSM (R127): `AC[ac]`, the word, halves exchanged, to `C(E)`. -/
def execMovsm (ac : AcNum) (m : AddrPart) (s : State) : Result := unaryMemory swapped ac m s

/-- MOVSS (R128): `C(E)`, the word, halves exchanged, to `C(E)` and, unless `ac` = 0, to `AC[ac]`. -/
def execMovss (ac : AcNum) (m : AddrPart) (s : State) : Result := unarySelf swapped ac m s

/-- MOVN (R129): `C(E)`, the negated word to `AC[ac]`. -/
def execMovn (ac : AcNum) (m : AddrPart) (s : State) : Result := unaryBasic neg36 ac m s

/-- MOVNI (R130): `0,,E`, the negated word to `AC[ac]`. -/
def execMovni (ac : AcNum) (m : AddrPart) (s : State) : Result := unaryImmediate neg36 ac m s

/-- MOVNM (R131): `AC[ac]`, the negated word to `C(E)`. -/
def execMovnm (ac : AcNum) (m : AddrPart) (s : State) : Result := unaryMemory neg36 ac m s

/-- MOVNS (R132): `C(E)`, the negated word to `C(E)` and, unless `ac` = 0, to `AC[ac]`. -/
def execMovns (ac : AcNum) (m : AddrPart) (s : State) : Result := unarySelf neg36 ac m s

/-- MOVM (R133): `C(E)`, the magnitude of the word to `AC[ac]`. -/
def execMovm (ac : AcNum) (m : AddrPart) (s : State) : Result := unaryBasic magnitude36 ac m s

/-- MOVMI (R134): `0,,E`, the magnitude of the word to `AC[ac]`. -/
def execMovmi (ac : AcNum) (m : AddrPart) (s : State) : Result := unaryImmediate magnitude36 ac m s

/-- MOVMM (R135): `AC[ac]`, the magnitude of the word to `C(E)`. -/
def execMovmm (ac : AcNum) (m : AddrPart) (s : State) : Result := unaryMemory magnitude36 ac m s

/-- MOVMS (R136): `C(E)`, the magnitude of the word to `C(E)` and, unless `ac` = 0, to `AC[ac]`. -/
def execMovms (ac : AcNum) (m : AddrPart) (s : State) : Result := unarySelf magnitude36 ac m s

/-- EXCH (R137): both old values are read, memory is written first. -/
def execExch (ac : AcNum) (m : AddrPart) (s : State) : Result :=
  finish do
  let x ← s.operand m
  let t ← s.writeMem x.1 (s.ac ac)
  pure ((t.setAc ac x.2).normal)

/-- The words of a block transfer, one at a time in ascending order, each read after the write before it (R138). -/
def State.copyBlock (s : State) (count : Nat) (src dst : Offset) : Except Fault State :=
  match count with
  | 0 => .ok s
  | k + 1 => do
    let w ← s.readMem (s.sec src)
    let t ← s.writeMem (s.sec dst) w
    t.copyBlock k (src + 1) (dst + 1)

/-- How many words a block transfer moves: up to the destination E, at least one (R138). -/
def blockCount (dst e : Offset) : Nat := e.toNat - dst.toNat + 1

/-- The accumulator after a block transfer of `count` words (R138). -/
def blockEnd (a : Word) (count : Nat) : Word :=
  joinHalves (lh a + BitVec.ofNat 18 count) (rh a + BitVec.ofNat 18 count)

/-- BLT (R138): block transfer; the final accumulator is written last. -/
def execBlt (ac : AcNum) (m : AddrPart) (s : State) : Result :=
  finish do
  let e ← s.effective m
  let n := blockCount (rh (s.ac ac)) e
  let t ← s.copyBlock n (lh (s.ac ac)) (rh (s.ac ac))
  pure ((t.setAc ac (blockEnd (s.ac ac) n)).normal)

/-- DMOVE (R139): the double word at E to the accumulator pair, bit for bit. -/
def execDmove (ac : AcNum) (m : AddrPart) (s : State) : Result :=
  finish do
  let x ← s.operand2 m
  pure ((s.setAcPair ac x).normal)

/-- The negation of a double word, packed, with its flags (R140). -/
def negateDouble (h l : Word) : (Word × Word) × BitVec 13 :=
  let r := neg71 (BitVec.ofInt 71 (unpack72 h l))
  (pack72 r.1.toInt, r.2)

/-- DMOVN (R140): the negated double word at E to the accumulator pair. -/
def execDmovn (ac : AcNum) (m : AddrPart) (s : State) : Result :=
  finish do
  let x ← s.operand2 m
  let r := negateDouble x.1 x.2
  pure (((s.setFlags r.2).setAcPair ac r.1).normal)

/-- DMOVEM (R141): the accumulator pair to the double word at E. -/
def execDmovem (ac : AcNum) (m : AddrPart) (s : State) : Result :=
  finish do
  let e ← s.effective m
  let t ← s.writeMem2 (s.sec e) (s.ac ac, s.ac (ac + 1))
  pure t.normal

/-- DMOVNM (R142): the negated accumulator pair to the double word at E. -/
def execDmovnm (ac : AcNum) (m : AddrPart) (s : State) : Result :=
  finish do
  let e ← s.effective m
  let r := negateDouble (s.ac ac) (s.ac (ac + 1))
  let t ← (s.setFlags r.2).writeMem2 (s.sec e) r.1
  pure t.normal

end Sys2Proof.Machine
end

