-- ==== Sys2Proof/Machine/HalfWord.lean ====
section
/-!
DEFINITION. The half-word family (R370 to R434): destination side, cross, fill and mode.
-/

namespace Sys2Proof.Machine

/-- What becomes of the half of the destination that is not moved to (R370). -/
inductive Fill where
  | asIs | zeros | ones | signExtend
  deriving DecidableEq, Repr

/-- The half that is moved: the right one when exactly one of `destRight` and `cross` is set (R370). -/
def movedHalf (destRight cross : Bool) (w : Word) : Half := if destRight != cross then rh w else lh w

/-- `HalfResult(h, d, destRight, fill)` (R370). -/
def halfResult (h : Half) (d : Word) (destRight : Bool) (fill : Fill) : Word :=
  let other : Half := match fill with
    | .asIs => if destRight then lh d else rh d
    | .zeros => 0
    | .ones => BitVec.allOnes 18
    | .signExtend => if h.msb then BitVec.allOnes 18 else 0
  if destRight then joinHalves other h else joinHalves h other

/-- Mode basic: source `C(E)`, destination `AC[ac]`. -/
def halfBasic (destRight cross : Bool) (fill : Fill) (ac : AcNum) (m : AddrPart) (s : State) : Result := finish do
  let x ← s.operand m
  pure ((s.setAc ac (halfResult (movedHalf destRight cross x.2) (s.ac ac) destRight fill)).normal)

/-- Mode I: source `0,,E`, destination `AC[ac]`. -/
def halfImmediate (destRight cross : Bool) (fill : Fill) (ac : AcNum) (m : AddrPart) (s : State) : Result := finish do
  let e ← s.effective m
  pure ((s.setAc ac (halfResult (movedHalf destRight cross (immediate e)) (s.ac ac) destRight fill)).normal)

/-- The old destination of mode M: read only when the fill keeps its other half (R370). -/
def State.oldDestination (s : State) (fill : Fill) (a : VAddr) : Except Fault Word :=
  if fill = .asIs then s.readMem a else .ok 0

/-- Mode M: source `AC[ac]`, destination `C(E)`. -/
def halfMemory (destRight cross : Bool) (fill : Fill) (ac : AcNum) (m : AddrPart) (s : State) : Result := finish do
  let e ← s.effective m
  let d ← s.oldDestination fill (s.sec e)
  let t ← s.writeMem (s.sec e) (halfResult (movedHalf destRight cross (s.ac ac)) d destRight fill)
  pure t.normal

/-- Mode S: source and destination `C(E)`, and `AC[ac]` unless `ac` = 0. -/
def halfSelf (destRight cross : Bool) (fill : Fill) (ac : AcNum) (m : AddrPart) (s : State) : Result := finish do
  let x ← s.operand m
  let r := halfResult (movedHalf destRight cross x.2) x.2 destRight fill
  let t ← s.writeMem x.1 r
  pure ((t.setAcUnlessZero ac r).normal)

/-- HLL (R371): `C(E)` to `AC[ac]`, left half to left, other half kept. -/
def execHll (ac : AcNum) (m : AddrPart) (s : State) : Result := halfBasic false false .asIs ac m s

/-- HLLI (R372): `0,,E` to `AC[ac]`, left half to left, other half kept. -/
def execHlli (ac : AcNum) (m : AddrPart) (s : State) : Result := halfImmediate false false .asIs ac m s

/-- HLLM (R373): `AC[ac]` to `C(E)`, left half to left, other half kept. -/
def execHllm (ac : AcNum) (m : AddrPart) (s : State) : Result := halfMemory false false .asIs ac m s

/-- HLLS (R374): `C(E)` to itself, left half to left, other half kept. -/
def execHlls (ac : AcNum) (m : AddrPart) (s : State) : Result := halfSelf false false .asIs ac m s

/-- HLLZ (R379): `C(E)` to `AC[ac]`, left half to left, zeros in the other half. -/
def execHllz (ac : AcNum) (m : AddrPart) (s : State) : Result := halfBasic false false .zeros ac m s

/-- HLLZI (R380): `0,,E` to `AC[ac]`, left half to left, zeros in the other half. -/
def execHllzi (ac : AcNum) (m : AddrPart) (s : State) : Result := halfImmediate false false .zeros ac m s

/-- HLLZM (R381): `AC[ac]` to `C(E)`, left half to left, zeros in the other half. -/
def execHllzm (ac : AcNum) (m : AddrPart) (s : State) : Result := halfMemory false false .zeros ac m s

/-- HLLZS (R382): `C(E)` to itself, left half to left, zeros in the other half. -/
def execHllzs (ac : AcNum) (m : AddrPart) (s : State) : Result := halfSelf false false .zeros ac m s

/-- HLLO (R387): `C(E)` to `AC[ac]`, left half to left, ones in the other half. -/
def execHllo (ac : AcNum) (m : AddrPart) (s : State) : Result := halfBasic false false .ones ac m s

/-- HLLOI (R388): `0,,E` to `AC[ac]`, left half to left, ones in the other half. -/
def execHlloi (ac : AcNum) (m : AddrPart) (s : State) : Result := halfImmediate false false .ones ac m s

/-- HLLOM (R389): `AC[ac]` to `C(E)`, left half to left, ones in the other half. -/
def execHllom (ac : AcNum) (m : AddrPart) (s : State) : Result := halfMemory false false .ones ac m s

/-- HLLOS (R390): `C(E)` to itself, left half to left, ones in the other half. -/
def execHllos (ac : AcNum) (m : AddrPart) (s : State) : Result := halfSelf false false .ones ac m s

/-- HLLE (R395): `C(E)` to `AC[ac]`, left half to left, sign extended. -/
def execHlle (ac : AcNum) (m : AddrPart) (s : State) : Result := halfBasic false false .signExtend ac m s

/-- HLLEI (R396): `0,,E` to `AC[ac]`, left half to left, sign extended. -/
def execHllei (ac : AcNum) (m : AddrPart) (s : State) : Result := halfImmediate false false .signExtend ac m s

/-- HLLEM (R397): `AC[ac]` to `C(E)`, left half to left, sign extended. -/
def execHllem (ac : AcNum) (m : AddrPart) (s : State) : Result := halfMemory false false .signExtend ac m s

/-- HLLES (R398): `C(E)` to itself, left half to left, sign extended. -/
def execHlles (ac : AcNum) (m : AddrPart) (s : State) : Result := halfSelf false false .signExtend ac m s

/-- HRL (R375): `C(E)` to `AC[ac]`, right half to left, other half kept. -/
def execHrl (ac : AcNum) (m : AddrPart) (s : State) : Result := halfBasic false true .asIs ac m s

/-- HRLI (R376): `0,,E` to `AC[ac]`, right half to left, other half kept. -/
def execHrli (ac : AcNum) (m : AddrPart) (s : State) : Result := halfImmediate false true .asIs ac m s

/-- HRLM (R377): `AC[ac]` to `C(E)`, right half to left, other half kept. -/
def execHrlm (ac : AcNum) (m : AddrPart) (s : State) : Result := halfMemory false true .asIs ac m s

/-- HRLS (R378): `C(E)` to itself, right half to left, other half kept. -/
def execHrls (ac : AcNum) (m : AddrPart) (s : State) : Result := halfSelf false true .asIs ac m s

/-- HRLZ (R383): `C(E)` to `AC[ac]`, right half to left, zeros in the other half. -/
def execHrlz (ac : AcNum) (m : AddrPart) (s : State) : Result := halfBasic false true .zeros ac m s

/-- HRLZI (R384): `0,,E` to `AC[ac]`, right half to left, zeros in the other half. -/
def execHrlzi (ac : AcNum) (m : AddrPart) (s : State) : Result := halfImmediate false true .zeros ac m s

/-- HRLZM (R385): `AC[ac]` to `C(E)`, right half to left, zeros in the other half. -/
def execHrlzm (ac : AcNum) (m : AddrPart) (s : State) : Result := halfMemory false true .zeros ac m s

/-- HRLZS (R386): `C(E)` to itself, right half to left, zeros in the other half. -/
def execHrlzs (ac : AcNum) (m : AddrPart) (s : State) : Result := halfSelf false true .zeros ac m s

/-- HRLO (R391): `C(E)` to `AC[ac]`, right half to left, ones in the other half. -/
def execHrlo (ac : AcNum) (m : AddrPart) (s : State) : Result := halfBasic false true .ones ac m s

/-- HRLOI (R392): `0,,E` to `AC[ac]`, right half to left, ones in the other half. -/
def execHrloi (ac : AcNum) (m : AddrPart) (s : State) : Result := halfImmediate false true .ones ac m s

/-- HRLOM (R393): `AC[ac]` to `C(E)`, right half to left, ones in the other half. -/
def execHrlom (ac : AcNum) (m : AddrPart) (s : State) : Result := halfMemory false true .ones ac m s

/-- HRLOS (R394): `C(E)` to itself, right half to left, ones in the other half. -/
def execHrlos (ac : AcNum) (m : AddrPart) (s : State) : Result := halfSelf false true .ones ac m s

/-- HRLE (R399): `C(E)` to `AC[ac]`, right half to left, sign extended. -/
def execHrle (ac : AcNum) (m : AddrPart) (s : State) : Result := halfBasic false true .signExtend ac m s

/-- HRLEI (R400): `0,,E` to `AC[ac]`, right half to left, sign extended. -/
def execHrlei (ac : AcNum) (m : AddrPart) (s : State) : Result := halfImmediate false true .signExtend ac m s

/-- HRLEM (R401): `AC[ac]` to `C(E)`, right half to left, sign extended. -/
def execHrlem (ac : AcNum) (m : AddrPart) (s : State) : Result := halfMemory false true .signExtend ac m s

/-- HRLES (R402): `C(E)` to itself, right half to left, sign extended. -/
def execHrles (ac : AcNum) (m : AddrPart) (s : State) : Result := halfSelf false true .signExtend ac m s

/-- HRR (R403): `C(E)` to `AC[ac]`, right half to right, other half kept. -/
def execHrr (ac : AcNum) (m : AddrPart) (s : State) : Result := halfBasic true false .asIs ac m s

/-- HRRI (R404): `0,,E` to `AC[ac]`, right half to right, other half kept. -/
def execHrri (ac : AcNum) (m : AddrPart) (s : State) : Result := halfImmediate true false .asIs ac m s

/-- HRRM (R405): `AC[ac]` to `C(E)`, right half to right, other half kept. -/
def execHrrm (ac : AcNum) (m : AddrPart) (s : State) : Result := halfMemory true false .asIs ac m s

/-- HRRS (R406): `C(E)` to itself, right half to right, other half kept. -/
def execHrrs (ac : AcNum) (m : AddrPart) (s : State) : Result := halfSelf true false .asIs ac m s

/-- HRRZ (R411): `C(E)` to `AC[ac]`, right half to right, zeros in the other half. -/
def execHrrz (ac : AcNum) (m : AddrPart) (s : State) : Result := halfBasic true false .zeros ac m s

/-- HRRZI (R412): `0,,E` to `AC[ac]`, right half to right, zeros in the other half. -/
def execHrrzi (ac : AcNum) (m : AddrPart) (s : State) : Result := halfImmediate true false .zeros ac m s

/-- HRRZM (R413): `AC[ac]` to `C(E)`, right half to right, zeros in the other half. -/
def execHrrzm (ac : AcNum) (m : AddrPart) (s : State) : Result := halfMemory true false .zeros ac m s

/-- HRRZS (R414): `C(E)` to itself, right half to right, zeros in the other half. -/
def execHrrzs (ac : AcNum) (m : AddrPart) (s : State) : Result := halfSelf true false .zeros ac m s

/-- HRRO (R419): `C(E)` to `AC[ac]`, right half to right, ones in the other half. -/
def execHrro (ac : AcNum) (m : AddrPart) (s : State) : Result := halfBasic true false .ones ac m s

/-- HRROI (R420): `0,,E` to `AC[ac]`, right half to right, ones in the other half. -/
def execHrroi (ac : AcNum) (m : AddrPart) (s : State) : Result := halfImmediate true false .ones ac m s

/-- HRROM (R421): `AC[ac]` to `C(E)`, right half to right, ones in the other half. -/
def execHrrom (ac : AcNum) (m : AddrPart) (s : State) : Result := halfMemory true false .ones ac m s

/-- HRROS (R422): `C(E)` to itself, right half to right, ones in the other half. -/
def execHrros (ac : AcNum) (m : AddrPart) (s : State) : Result := halfSelf true false .ones ac m s

/-- HRRE (R427): `C(E)` to `AC[ac]`, right half to right, sign extended. -/
def execHrre (ac : AcNum) (m : AddrPart) (s : State) : Result := halfBasic true false .signExtend ac m s

/-- HRREI (R428): `0,,E` to `AC[ac]`, right half to right, sign extended. -/
def execHrrei (ac : AcNum) (m : AddrPart) (s : State) : Result := halfImmediate true false .signExtend ac m s

/-- HRREM (R429): `AC[ac]` to `C(E)`, right half to right, sign extended. -/
def execHrrem (ac : AcNum) (m : AddrPart) (s : State) : Result := halfMemory true false .signExtend ac m s

/-- HRRES (R430): `C(E)` to itself, right half to right, sign extended. -/
def execHrres (ac : AcNum) (m : AddrPart) (s : State) : Result := halfSelf true false .signExtend ac m s

/-- HLR (R407): `C(E)` to `AC[ac]`, left half to right, other half kept. -/
def execHlr (ac : AcNum) (m : AddrPart) (s : State) : Result := halfBasic true true .asIs ac m s

/-- HLRI (R408): `0,,E` to `AC[ac]`, left half to right, other half kept. -/
def execHlri (ac : AcNum) (m : AddrPart) (s : State) : Result := halfImmediate true true .asIs ac m s

/-- HLRM (R409): `AC[ac]` to `C(E)`, left half to right, other half kept. -/
def execHlrm (ac : AcNum) (m : AddrPart) (s : State) : Result := halfMemory true true .asIs ac m s

/-- HLRS (R410): `C(E)` to itself, left half to right, other half kept. -/
def execHlrs (ac : AcNum) (m : AddrPart) (s : State) : Result := halfSelf true true .asIs ac m s

/-- HLRZ (R415): `C(E)` to `AC[ac]`, left half to right, zeros in the other half. -/
def execHlrz (ac : AcNum) (m : AddrPart) (s : State) : Result := halfBasic true true .zeros ac m s

/-- HLRZI (R416): `0,,E` to `AC[ac]`, left half to right, zeros in the other half. -/
def execHlrzi (ac : AcNum) (m : AddrPart) (s : State) : Result := halfImmediate true true .zeros ac m s

/-- HLRZM (R417): `AC[ac]` to `C(E)`, left half to right, zeros in the other half. -/
def execHlrzm (ac : AcNum) (m : AddrPart) (s : State) : Result := halfMemory true true .zeros ac m s

/-- HLRZS (R418): `C(E)` to itself, left half to right, zeros in the other half. -/
def execHlrzs (ac : AcNum) (m : AddrPart) (s : State) : Result := halfSelf true true .zeros ac m s

/-- HLRO (R423): `C(E)` to `AC[ac]`, left half to right, ones in the other half. -/
def execHlro (ac : AcNum) (m : AddrPart) (s : State) : Result := halfBasic true true .ones ac m s

/-- HLROI (R424): `0,,E` to `AC[ac]`, left half to right, ones in the other half. -/
def execHlroi (ac : AcNum) (m : AddrPart) (s : State) : Result := halfImmediate true true .ones ac m s

/-- HLROM (R425): `AC[ac]` to `C(E)`, left half to right, ones in the other half. -/
def execHlrom (ac : AcNum) (m : AddrPart) (s : State) : Result := halfMemory true true .ones ac m s

/-- HLROS (R426): `C(E)` to itself, left half to right, ones in the other half. -/
def execHlros (ac : AcNum) (m : AddrPart) (s : State) : Result := halfSelf true true .ones ac m s

/-- HLRE (R431): `C(E)` to `AC[ac]`, left half to right, sign extended. -/
def execHlre (ac : AcNum) (m : AddrPart) (s : State) : Result := halfBasic true true .signExtend ac m s

/-- HLREI (R432): `0,,E` to `AC[ac]`, left half to right, sign extended. -/
def execHlrei (ac : AcNum) (m : AddrPart) (s : State) : Result := halfImmediate true true .signExtend ac m s

/-- HLREM (R433): `AC[ac]` to `C(E)`, left half to right, sign extended. -/
def execHlrem (ac : AcNum) (m : AddrPart) (s : State) : Result := halfMemory true true .signExtend ac m s

/-- HLRES (R434): `C(E)` to itself, left half to right, sign extended. -/
def execHlres (ac : AcNum) (m : AddrPart) (s : State) : Result := halfSelf true true .signExtend ac m s

end Sys2Proof.Machine
end

