-- ==== Sys2Proof/Machine/Io.lean ====
section
/-!
DEFINITION. The I/O instructions (R590 to R601) and the interrupt controller as a device (R651, R652). A device is outside
the CORE: the transaction is logged, a word it returns and what becomes of its own `pending` and `level` are free
values (log 8, log 9).
-/

namespace Sys2Proof.Machine

/-- The sub-operation code (R590). -/
def ioCode : IoOp → Nat
  | .blki => 0
  | .datai => 1
  | .blko => 2
  | .datao => 3
  | .cono => 4
  | .coni => 5
  | .consz => 6
  | .conso => 7

/-- Bits 0-12 of an I/O word (R590). -/
def ioHead (dev : DevId) (op : IoOp) : BitVec 13 := (7#3) ++ dev ++ BitVec.ofNat 3 (ioCode op)

/-- Whether the device implements an operation (R32). -/
def Device.implements (d : Device) (op : IoOp) : Bool := d.caps.getLsbD (ioCode op)

/-- The registry entry of a device number (R32). -/
def State.findDevice (s : State) (dev : DevId) : Option Device := s.devices.find? (fun d => d.id == dev)

/-- An entry after its own handler ran (R591): `pending` and `level` are what the device made them. -/
def Device.afterCall (d : Device) (log : List IoEvent) (icount : Nat) : Device :=
  { d with pending := Config.devicePending log icount, level := Config.deviceLevel log icount }

/-- A handler call: the transaction is logged and the device's own entry is what the device makes it (R591, D50). DESIGN
CHOICE (log 20): no handler calls `ClearIO`, which R655 and D21 would let the handler of an APR device model do. -/
def State.deviceCall (s : State) (dev : DevId) (ev : IoEvent) : State :=
  { s with
    ioLog := ev :: s.ioLog
    devices := s.devices.map (fun d => if d.id = dev then d.afterCall (ev :: s.ioLog) s.icount else d) }

/-- The word a handler call returns (R591, U6). -/
def State.deviceWord (s : State) (ev : IoEvent) : Word := Config.deviceWord (ev :: s.ioLog) s.icount

/-- An unknown device, under `IO_POLICY` (R597). -/
def State.unknownDevice (s : State) (dev : DevId) : Except Fault State :=
  match s.params.ioPolicy with
  | .continue => .ok { s with ioLog := .noSuchDevice dev :: s.ioLog }.normal
  | .fault => .error (.noSuchDevice dev)

/-- An operation the device does not implement, under `IO_POLICY` (R597). -/
def State.unimplemented (s : State) (dev : DevId) (op : IoOp) : Except Fault State :=
  match s.params.ioPolicy with
  | .continue => .ok { s with ioLog := .notImplemented dev op :: s.ioLog }.normal
  | .fault => .error (.ioNotImplemented dev op)

/-- Which of the four ways an I/O instruction takes (R591). -/
inductive IoRoute where
  | monitorCall | controller | unknown | unimplemented | device
  deriving DecidableEq, Repr

/-- The checks of R591 in order; `needs` are the capabilities the operation requires. -/
def State.ioRoute (s : State) (dev : DevId) (needs : List IoOp) : IoRoute :=
  if !s.ioLegal then .monitorCall
  else if dev = 1 then .controller
  else match s.findDevice dev with
    | none => .unknown
    | some d => if needs.all d.implements then .device else .unimplemented

/-- The common steps of every I/O instruction (R591): `onController` for device 1, `onDevice` for a device that
implements the operation. -/
def ioInstruction (op : IoOp) (needs : List IoOp) (onController onDevice : State → Offset → Except Fault State)
    (dev : DevId) (m : AddrPart) (s : State) : Result := finish do
  let e ← s.effective m
  match s.ioRoute dev needs with
  | .monitorCall => s.raiseMuuo (ioHead dev op) e
  | .controller => onController s e
  | .unknown => s.unknownDevice dev
  | .unimplemented => s.unimplemented dev op
  | .device => onDevice s e

-- The interrupt controller (R651, R652)

/-- The condition word of the controller (R652). -/
def InterruptController.conditions (p : InterruptController) : Word :=
  (0#11) ++ p.request ++ (0#3) ++ p.held ++ BitVec.ofBool p.turnedOn ++ p.enabled

/-- Bit k of the 18-bit command, numbered 18 to 35 (R651). -/
def commandBit (e : Half) (k : Nat) : Bool := e.getLsbD (35 - k)

/-- One action of a CONO to the controller, done when its bit is 1. -/
def InterruptController.when (p : InterruptController) (c : Bool) (f : InterruptController → InterruptController) :
    InterruptController := if c then f p else p

/-- CONO to the controller: the actions in the order 23, 22, 24, 25, 26, 27, 28 (R651). -/
def InterruptController.command (p : InterruptController) (e : Half) : InterruptController :=
  let sel : BitVec 7 := e.extractLsb' 0 7
  let p := p.when (commandBit e 23)
    (fun _ => { turnedOn := false, enabled := 0, held := 0, request := 0, current := none })
  let p := p.when (commandBit e 22) (fun p => { p with request := p.request &&& ~~~sel })
  let p := p.when (commandBit e 24) (fun p => { p with request := p.request ||| sel })
  let p := p.when (commandBit e 25) (fun p => { p with enabled := p.enabled ||| sel })
  let p := p.when (commandBit e 26) (fun p => { p with enabled := p.enabled &&& ~~~sel })
  let p := p.when (commandBit e 27) (fun p => { p with turnedOn := false })
  p.when (commandBit e 28) (fun p => { p with turnedOn := true })

/-- The controller does not implement BLKI, DATAI, BLKO, DATAO (R652). -/
def controllerRefuses (op : IoOp) (s : State) (_e : Offset) : Except Fault State := s.unimplemented 1 op

/-- The AND of a condition word with the mask `0,,E` (R599, R600). -/
def maskedConditions (w : Word) (e : Offset) : Word := w &&& immediate e

-- The eight operations on a device

/-- The block pointer of BLKI and BLKO after its step (R592). -/
def blockStep (p : Word) : Word := addHalves p 1

/-- The skip of BLKI and BLKO: the count field overflowed, under `BLK_SKIP_ON_CARRY` (R592). -/
def State.blockSkips (s : State) (p : Word) : Bool := (lh (blockStep p) == 0) == s.params.blkSkipOnCarry

/-- BLKI on a device (R592): the pointer is stepped, the word goes to the stepped address. -/
def blockIn (dev : DevId) (s : State) (e : Offset) : Except Fault State := do
  let p ← s.readMem (s.sec e)
  let t ← s.writeMem (s.sec e) (blockStep p)
  let u ← (t.deviceCall dev (.dataIn dev)).writeMem (t.sec (rh (blockStep p))) (t.deviceWord (.dataIn dev))
  pure (u.skipIf (s.blockSkips p))

/-- BLKI (R592): block in. -/
def execBlki (dev : DevId) (m : AddrPart) (s : State) : Result :=
  ioInstruction .blki [.blki, .datai] (controllerRefuses .blki) (blockIn dev) dev m s

/-- DATAI on a device (R593). -/
def dataIn (dev : DevId) (s : State) (e : Offset) : Except Fault State := do
  let t ← (s.deviceCall dev (.dataIn dev)).writeMem (s.sec e) (s.deviceWord (.dataIn dev))
  pure t.normal

/-- DATAI (R593): the device's word to `C(E)`. -/
def execDatai (dev : DevId) (m : AddrPart) (s : State) : Result :=
  ioInstruction .datai [.datai] (controllerRefuses .datai) (dataIn dev) dev m s

/-- BLKO on a device (R594). -/
def blockOut (dev : DevId) (s : State) (e : Offset) : Except Fault State := do
  let p ← s.readMem (s.sec e)
  let t ← s.writeMem (s.sec e) (blockStep p)
  let w ← t.readMem (t.sec (rh (blockStep p)))
  pure ((t.deviceCall dev (.dataOut dev w)).skipIf (s.blockSkips p))

/-- BLKO (R594): block out. -/
def execBlko (dev : DevId) (m : AddrPart) (s : State) : Result :=
  ioInstruction .blko [.blko, .datao] (controllerRefuses .blko) (blockOut dev) dev m s

/-- DATAO on a device (R595). -/
def dataOut (dev : DevId) (s : State) (e : Offset) : Except Fault State := do
  let w ← s.readMem (s.sec e)
  pure ((s.deviceCall dev (.dataOut dev w)).normal)

/-- DATAO (R595): `C(E)` to the device. -/
def execDatao (dev : DevId) (m : AddrPart) (s : State) : Result :=
  ioInstruction .datao [.datao] (controllerRefuses .datao) (dataOut dev) dev m s

/-- CONO on a device (R596): E itself is the data. -/
def conditionsOut (dev : DevId) (s : State) (e : Offset) : Except Fault State :=
  .ok (s.deviceCall dev (.condOut dev e)).normal

/-- CONO on the controller (R651). -/
def controllerCono (s : State) (e : Offset) : Except Fault State := .ok { s with pi := s.pi.command e }.normal

/-- CONO (R596): E to the device, or a command to the controller. -/
def execCono (dev : DevId) (m : AddrPart) (s : State) : Result :=
  ioInstruction .cono [.cono] controllerCono (conditionsOut dev) dev m s

/-- CONI on a device (R598). -/
def conditionsIn (dev : DevId) (s : State) (e : Offset) : Except Fault State := do
  let t ← (s.deviceCall dev (.condIn dev)).writeMem (s.sec e) (s.deviceWord (.condIn dev))
  pure t.normal

/-- CONI on the controller (R652). -/
def controllerConi (s : State) (e : Offset) : Except Fault State := do
  let t ← s.writeMem (s.sec e) s.pi.conditions
  pure t.normal

/-- CONI (R598): the condition word to `C(E)`. -/
def execConi (dev : DevId) (m : AddrPart) (s : State) : Result :=
  ioInstruction .coni [.coni] controllerConi (conditionsIn dev) dev m s

/-- CONSZ on a device (R599). -/
def skipOnZero (dev : DevId) (s : State) (e : Offset) : Except Fault State :=
  .ok ((s.deviceCall dev (.condIn dev)).skipIf (maskedConditions (s.deviceWord (.condIn dev)) e == 0))

/-- CONSZ on the controller (R652). -/
def controllerConsz (s : State) (e : Offset) : Except Fault State :=
  .ok (s.skipIf (maskedConditions s.pi.conditions e == 0))

/-- CONSZ (R599): skip if the masked conditions are 0. -/
def execConsz (dev : DevId) (m : AddrPart) (s : State) : Result :=
  ioInstruction .consz [.consz] controllerConsz (skipOnZero dev) dev m s

/-- CONSO on a device (R600). -/
def skipOnNonzero (dev : DevId) (s : State) (e : Offset) : Except Fault State :=
  .ok ((s.deviceCall dev (.condIn dev)).skipIf (maskedConditions (s.deviceWord (.condIn dev)) e != 0))

/-- CONSO on the controller (R652). -/
def controllerConso (s : State) (e : Offset) : Except Fault State :=
  .ok (s.skipIf (maskedConditions s.pi.conditions e != 0))

/-- CONSO (R600): skip if the masked conditions are not 0. -/
def execConso (dev : DevId) (m : AddrPart) (s : State) : Result :=
  ioInstruction .conso [.conso] controllerConso (skipOnNonzero dev) dev m s

end Sys2Proof.Machine
end

