-- ==== Sys2Proof/Machine/LogicalTest.lean ====
section
/-!
DEFINITION. The logical test-and-modify family (R440 to R504): alignment, modification and skip condition, independent of
one another.
-/

namespace Sys2Proof.Machine

/-- The mask operation (R440). -/
inductive Modify where
  | none | zero | complement | set
  deriving DecidableEq, Repr

/-- The skip condition (R440). -/
inductive TestCond where
  | never | e | a | n
  deriving DecidableEq, Repr

/-- The accumulator after the mask operation (R440). -/
def Modify.apply (k : Modify) (a mask : Word) : Word :=
  match k with
  | .none => a
  | .zero => a &&& ~~~mask
  | .complement => a ^^^ mask
  | .set => a ||| mask

/-- The skip decision on the masked bits before modification (R440). -/
def TestCond.holds (c : TestCond) (t : Word) : Bool :=
  match c with
  | .never => false
  | .e => t == 0
  | .a => true
  | .n => t != 0

/-- The mask operation on the state: N writes no accumulator (R440). -/
def State.modifyAc (s : State) (k : Modify) (ac : AcNum) (mask : Word) : State :=
  if k = .none then s else s.setAc ac (k.apply (s.ac ac) mask)

/-- Test and modify under a mask: the skip is decided on the accumulator as it was (R440). -/
def State.testModify (s : State) (k : Modify) (c : TestCond) (ac : AcNum) (mask : Word) : State :=
  (s.modifyAc k ac mask).skipIf (c.holds (s.ac ac &&& mask))

/-- Alignments R and L: the mask is made of E. -/
def testImmediate (mask : Offset → Word) (k : Modify) (c : TestCond) (ac : AcNum) (m : AddrPart) (s : State) :
    Result := finish do
  let e ← s.effective m
  pure (s.testModify k c ac (mask e))

/-- Alignments D and S: the mask is made of `C(E)`, read once. -/
def testMemory (mask : Word → Word) (k : Modify) (c : TestCond) (ac : AcNum) (m : AddrPart) (s : State) : Result :=
  finish do
    let x ← s.operand m
    pure (s.testModify k c ac (mask x.2))

/-- TRN (R441): mask `0,,E`; nothing; never skip. -/
def execTrn (ac : AcNum) (m : AddrPart) (s : State) : Result := testImmediate immediate .none .never ac m s

/-- TLN (R442): mask `E,,0`; nothing; never skip. -/
def execTln (ac : AcNum) (m : AddrPart) (s : State) : Result := testImmediate leftImmediate .none .never ac m s

/-- TRNE (R443): mask `0,,E`; nothing; skip if all masked bits 0. -/
def execTrne (ac : AcNum) (m : AddrPart) (s : State) : Result := testImmediate immediate .none .e ac m s

/-- TLNE (R444): mask `E,,0`; nothing; skip if all masked bits 0. -/
def execTlne (ac : AcNum) (m : AddrPart) (s : State) : Result := testImmediate leftImmediate .none .e ac m s

/-- TRNA (R445): mask `0,,E`; nothing; always skip. -/
def execTrna (ac : AcNum) (m : AddrPart) (s : State) : Result := testImmediate immediate .none .a ac m s

/-- TLNA (R446): mask `E,,0`; nothing; always skip. -/
def execTlna (ac : AcNum) (m : AddrPart) (s : State) : Result := testImmediate leftImmediate .none .a ac m s

/-- TRNN (R447): mask `0,,E`; nothing; skip if any masked bit 1. -/
def execTrnn (ac : AcNum) (m : AddrPart) (s : State) : Result := testImmediate immediate .none .n ac m s

/-- TLNN (R448): mask `E,,0`; nothing; skip if any masked bit 1. -/
def execTlnn (ac : AcNum) (m : AddrPart) (s : State) : Result := testImmediate leftImmediate .none .n ac m s

/-- TDN (R449): mask `C(E)`; nothing; never skip. -/
def execTdn (ac : AcNum) (m : AddrPart) (s : State) : Result := testMemory id .none .never ac m s

/-- TSN (R450): mask `C(E)` swapped; nothing; never skip. -/
def execTsn (ac : AcNum) (m : AddrPart) (s : State) : Result := testMemory swapHalves .none .never ac m s

/-- TDNE (R451): mask `C(E)`; nothing; skip if all masked bits 0. -/
def execTdne (ac : AcNum) (m : AddrPart) (s : State) : Result := testMemory id .none .e ac m s

/-- TSNE (R452): mask `C(E)` swapped; nothing; skip if all masked bits 0. -/
def execTsne (ac : AcNum) (m : AddrPart) (s : State) : Result := testMemory swapHalves .none .e ac m s

/-- TDNA (R453): mask `C(E)`; nothing; always skip. -/
def execTdna (ac : AcNum) (m : AddrPart) (s : State) : Result := testMemory id .none .a ac m s

/-- TSNA (R454): mask `C(E)` swapped; nothing; always skip. -/
def execTsna (ac : AcNum) (m : AddrPart) (s : State) : Result := testMemory swapHalves .none .a ac m s

/-- TDNN (R455): mask `C(E)`; nothing; skip if any masked bit 1. -/
def execTdnn (ac : AcNum) (m : AddrPart) (s : State) : Result := testMemory id .none .n ac m s

/-- TSNN (R456): mask `C(E)` swapped; nothing; skip if any masked bit 1. -/
def execTsnn (ac : AcNum) (m : AddrPart) (s : State) : Result := testMemory swapHalves .none .n ac m s

/-- TRZ (R457): mask `0,,E`; clear; never skip. -/
def execTrz (ac : AcNum) (m : AddrPart) (s : State) : Result := testImmediate immediate .zero .never ac m s

/-- TLZ (R458): mask `E,,0`; clear; never skip. -/
def execTlz (ac : AcNum) (m : AddrPart) (s : State) : Result := testImmediate leftImmediate .zero .never ac m s

/-- TRZE (R459): mask `0,,E`; clear; skip if all masked bits 0. -/
def execTrze (ac : AcNum) (m : AddrPart) (s : State) : Result := testImmediate immediate .zero .e ac m s

/-- TLZE (R460): mask `E,,0`; clear; skip if all masked bits 0. -/
def execTlze (ac : AcNum) (m : AddrPart) (s : State) : Result := testImmediate leftImmediate .zero .e ac m s

/-- TRZA (R461): mask `0,,E`; clear; always skip. -/
def execTrza (ac : AcNum) (m : AddrPart) (s : State) : Result := testImmediate immediate .zero .a ac m s

/-- TLZA (R462): mask `E,,0`; clear; always skip. -/
def execTlza (ac : AcNum) (m : AddrPart) (s : State) : Result := testImmediate leftImmediate .zero .a ac m s

/-- TRZN (R463): mask `0,,E`; clear; skip if any masked bit 1. -/
def execTrzn (ac : AcNum) (m : AddrPart) (s : State) : Result := testImmediate immediate .zero .n ac m s

/-- TLZN (R464): mask `E,,0`; clear; skip if any masked bit 1. -/
def execTlzn (ac : AcNum) (m : AddrPart) (s : State) : Result := testImmediate leftImmediate .zero .n ac m s

/-- TDZ (R465): mask `C(E)`; clear; never skip. -/
def execTdz (ac : AcNum) (m : AddrPart) (s : State) : Result := testMemory id .zero .never ac m s

/-- TSZ (R466): mask `C(E)` swapped; clear; never skip. -/
def execTsz (ac : AcNum) (m : AddrPart) (s : State) : Result := testMemory swapHalves .zero .never ac m s

/-- TDZE (R467): mask `C(E)`; clear; skip if all masked bits 0. -/
def execTdze (ac : AcNum) (m : AddrPart) (s : State) : Result := testMemory id .zero .e ac m s

/-- TSZE (R468): mask `C(E)` swapped; clear; skip if all masked bits 0. -/
def execTsze (ac : AcNum) (m : AddrPart) (s : State) : Result := testMemory swapHalves .zero .e ac m s

/-- TDZA (R469): mask `C(E)`; clear; always skip. -/
def execTdza (ac : AcNum) (m : AddrPart) (s : State) : Result := testMemory id .zero .a ac m s

/-- TSZA (R470): mask `C(E)` swapped; clear; always skip. -/
def execTsza (ac : AcNum) (m : AddrPart) (s : State) : Result := testMemory swapHalves .zero .a ac m s

/-- TDZN (R471): mask `C(E)`; clear; skip if any masked bit 1. -/
def execTdzn (ac : AcNum) (m : AddrPart) (s : State) : Result := testMemory id .zero .n ac m s

/-- TSZN (R472): mask `C(E)` swapped; clear; skip if any masked bit 1. -/
def execTszn (ac : AcNum) (m : AddrPart) (s : State) : Result := testMemory swapHalves .zero .n ac m s

/-- TRC (R473): mask `0,,E`; complement; never skip. -/
def execTrc (ac : AcNum) (m : AddrPart) (s : State) : Result := testImmediate immediate .complement .never ac m s

/-- TLC (R474): mask `E,,0`; complement; never skip. -/
def execTlc (ac : AcNum) (m : AddrPart) (s : State) : Result := testImmediate leftImmediate .complement .never ac m s

/-- TRCE (R475): mask `0,,E`; complement; skip if all masked bits 0. -/
def execTrce (ac : AcNum) (m : AddrPart) (s : State) : Result := testImmediate immediate .complement .e ac m s

/-- TLCE (R476): mask `E,,0`; complement; skip if all masked bits 0. -/
def execTlce (ac : AcNum) (m : AddrPart) (s : State) : Result := testImmediate leftImmediate .complement .e ac m s

/-- TRCA (R477): mask `0,,E`; complement; always skip. -/
def execTrca (ac : AcNum) (m : AddrPart) (s : State) : Result := testImmediate immediate .complement .a ac m s

/-- TLCA (R478): mask `E,,0`; complement; always skip. -/
def execTlca (ac : AcNum) (m : AddrPart) (s : State) : Result := testImmediate leftImmediate .complement .a ac m s

/-- TRCN (R479): mask `0,,E`; complement; skip if any masked bit 1. -/
def execTrcn (ac : AcNum) (m : AddrPart) (s : State) : Result := testImmediate immediate .complement .n ac m s

/-- TLCN (R480): mask `E,,0`; complement; skip if any masked bit 1. -/
def execTlcn (ac : AcNum) (m : AddrPart) (s : State) : Result := testImmediate leftImmediate .complement .n ac m s

/-- TDC (R481): mask `C(E)`; complement; never skip. -/
def execTdc (ac : AcNum) (m : AddrPart) (s : State) : Result := testMemory id .complement .never ac m s

/-- TSC (R482): mask `C(E)` swapped; complement; never skip. -/
def execTsc (ac : AcNum) (m : AddrPart) (s : State) : Result := testMemory swapHalves .complement .never ac m s

/-- TDCE (R483): mask `C(E)`; complement; skip if all masked bits 0. -/
def execTdce (ac : AcNum) (m : AddrPart) (s : State) : Result := testMemory id .complement .e ac m s

/-- TSCE (R484): mask `C(E)` swapped; complement; skip if all masked bits 0. -/
def execTsce (ac : AcNum) (m : AddrPart) (s : State) : Result := testMemory swapHalves .complement .e ac m s

/-- TDCA (R485): mask `C(E)`; complement; always skip. -/
def execTdca (ac : AcNum) (m : AddrPart) (s : State) : Result := testMemory id .complement .a ac m s

/-- TSCA (R486): mask `C(E)` swapped; complement; always skip. -/
def execTsca (ac : AcNum) (m : AddrPart) (s : State) : Result := testMemory swapHalves .complement .a ac m s

/-- TDCN (R487): mask `C(E)`; complement; skip if any masked bit 1. -/
def execTdcn (ac : AcNum) (m : AddrPart) (s : State) : Result := testMemory id .complement .n ac m s

/-- TSCN (R488): mask `C(E)` swapped; complement; skip if any masked bit 1. -/
def execTscn (ac : AcNum) (m : AddrPart) (s : State) : Result := testMemory swapHalves .complement .n ac m s

/-- TRO (R489): mask `0,,E`; set; never skip. -/
def execTro (ac : AcNum) (m : AddrPart) (s : State) : Result := testImmediate immediate .set .never ac m s

/-- TLO (R490): mask `E,,0`; set; never skip. -/
def execTlo (ac : AcNum) (m : AddrPart) (s : State) : Result := testImmediate leftImmediate .set .never ac m s

/-- TROE (R491): mask `0,,E`; set; skip if all masked bits 0. -/
def execTroe (ac : AcNum) (m : AddrPart) (s : State) : Result := testImmediate immediate .set .e ac m s

/-- TLOE (R492): mask `E,,0`; set; skip if all masked bits 0. -/
def execTloe (ac : AcNum) (m : AddrPart) (s : State) : Result := testImmediate leftImmediate .set .e ac m s

/-- TROA (R493): mask `0,,E`; set; always skip. -/
def execTroa (ac : AcNum) (m : AddrPart) (s : State) : Result := testImmediate immediate .set .a ac m s

/-- TLOA (R494): mask `E,,0`; set; always skip. -/
def execTloa (ac : AcNum) (m : AddrPart) (s : State) : Result := testImmediate leftImmediate .set .a ac m s

/-- TRON (R495): mask `0,,E`; set; skip if any masked bit 1. -/
def execTron (ac : AcNum) (m : AddrPart) (s : State) : Result := testImmediate immediate .set .n ac m s

/-- TLON (R496): mask `E,,0`; set; skip if any masked bit 1. -/
def execTlon (ac : AcNum) (m : AddrPart) (s : State) : Result := testImmediate leftImmediate .set .n ac m s

/-- TDO (R497): mask `C(E)`; set; never skip. -/
def execTdo (ac : AcNum) (m : AddrPart) (s : State) : Result := testMemory id .set .never ac m s

/-- TSO (R498): mask `C(E)` swapped; set; never skip. -/
def execTso (ac : AcNum) (m : AddrPart) (s : State) : Result := testMemory swapHalves .set .never ac m s

/-- TDOE (R499): mask `C(E)`; set; skip if all masked bits 0. -/
def execTdoe (ac : AcNum) (m : AddrPart) (s : State) : Result := testMemory id .set .e ac m s

/-- TSOE (R500): mask `C(E)` swapped; set; skip if all masked bits 0. -/
def execTsoe (ac : AcNum) (m : AddrPart) (s : State) : Result := testMemory swapHalves .set .e ac m s

/-- TDOA (R501): mask `C(E)`; set; always skip. -/
def execTdoa (ac : AcNum) (m : AddrPart) (s : State) : Result := testMemory id .set .a ac m s

/-- TSOA (R502): mask `C(E)` swapped; set; always skip. -/
def execTsoa (ac : AcNum) (m : AddrPart) (s : State) : Result := testMemory swapHalves .set .a ac m s

/-- TDON (R503): mask `C(E)`; set; skip if any masked bit 1. -/
def execTdon (ac : AcNum) (m : AddrPart) (s : State) : Result := testMemory id .set .n ac m s

/-- TSON (R504): mask `C(E)` swapped; set; skip if any masked bit 1. -/
def execTson (ac : AcNum) (m : AddrPart) (s : State) : Result := testMemory swapHalves .set .n ac m s

end Sys2Proof.Machine
end

