-- ==== Sys2Proof/Machine/Shift.lean ====
section
/-!
DEFINITION. Shifts and rotates (R270 to R276). The count is E itself, signed, its magnitude taken mod the width; a count of
0 after that changes nothing.
-/

namespace Sys2Proof.Machine

/-- `ShiftCount(E, W)` (R270). -/
def shiftCount (e : Offset) (w : Nat) : Int :=
  if e.toInt < 0 then -((e.toInt.natAbs % w : Nat) : Int) else ((e.toInt.natAbs % w : Nat) : Int)

/-- The left shift of an arithmetic shift, one place at a time: the field of `w` bits and whether a bit that left it
differed from the sign (R271, R274). -/
def shiftField (w : Nat) (sign : Bool) : Nat → Nat → Bool → Nat × Bool
  | 0, mag, ov => (mag, ov)
  | n + 1, mag, ov => shiftField w sign n ((2 * mag) % 2 ^ w) (ov || (mag / 2 ^ (w - 1) != sign.toNat))

/-- ASH's result and flags for a count n other than 0 (R271). -/
def ashWord (n : Int) (a : Word) : Word × BitVec 13 :=
  if 0 < n then
    let r := shiftField 35 a.msb n.natAbs (low35 a) false
    (BitVec.ofBool a.msb ++ BitVec.ofNat 35 r.1, if r.2 then overflowFlags else 0)
  else (BitVec.ofInt 36 (a.toInt / 2 ^ n.natAbs), 0)

/-- ROT's result: a left rotate by n mod 36 (R272). -/
def rotWord (n : Int) (a : Word) : Word × BitVec 13 :=
  let k := (n % 36).toNat
  (BitVec.ofNat 36 ((a.toNat * 2 ^ k) % 2 ^ 36 + a.toNat / 2 ^ (36 - k)), 0)

/-- LSH's result (R273). -/
def lshWord (n : Int) (a : Word) : Word × BitVec 13 :=
  if 0 < n then (BitVec.ofNat 36 (a.toNat * 2 ^ n.natAbs), 0) else (BitVec.ofNat 36 (a.toNat / 2 ^ n.natAbs), 0)

/-- ASHC's result and flags: 70 bits under one sign, the sign copied into both words (R274). -/
def ashcWords (n : Int) (a b : Word) : (Word × Word) × BitVec 13 :=
  if 0 < n then
    let r := shiftField 70 a.msb n.natAbs (low35 a * 2 ^ 35 + low35 b) false
    ((BitVec.ofBool a.msb ++ BitVec.ofNat 35 (r.1 / 2 ^ 35), BitVec.ofBool a.msb ++ BitVec.ofNat 35 r.1),
      if r.2 then overflowFlags else 0)
  else (pack72 (unpack72 a b / 2 ^ n.natAbs), 0)

/-- The pair as one 72-bit number, and back (R275, R276). -/
def pairNat (a b : Word) : Nat := a.toNat * 2 ^ 36 + b.toNat

/-- The two words of a 72-bit number. -/
def natPair (v : Nat) : Word × Word := (BitVec.ofNat 36 (v / 2 ^ 36), BitVec.ofNat 36 v)

/-- ROTC's result: a left rotate of 72 bits by n mod 72 (R275). -/
def rotcWords (n : Int) (a b : Word) : (Word × Word) × BitVec 13 :=
  let k := (n % 72).toNat
  (natPair ((pairNat a b * 2 ^ k) % 2 ^ 72 + pairNat a b / 2 ^ (72 - k)), 0)

/-- LSHC's result (R276). -/
def lshcWords (n : Int) (a b : Word) : (Word × Word) × BitVec 13 :=
  if 0 < n then (natPair ((pairNat a b * 2 ^ n.natAbs) % 2 ^ 72), 0)
  else (natPair (pairNat a b / 2 ^ n.natAbs), 0)

/-- A shift of `AC[ac]`. -/
def shiftOne (f : Int → Word → Word × BitVec 13) (ac : AcNum) (m : AddrPart) (s : State) : Result := finish do
  let e ← s.effective m
  let n := shiftCount e 36
  if n = 0 then pure s.normal
  else pure (((s.setFlags (f n (s.ac ac)).2).setAc ac (f n (s.ac ac)).1).normal)

/-- A shift of the pair `AC[ac]`, `AC[ac+1]`. -/
def shiftTwo (f : Int → Word → Word → (Word × Word) × BitVec 13) (ac : AcNum) (m : AddrPart) (s : State) : Result :=
  finish do
    let e ← s.effective m
    let n := shiftCount e 72
    let r := f n (s.ac ac) (s.ac (ac + 1))
    if n = 0 then pure s.normal
    else pure (((s.setFlags r.2).setAcPair ac r.1).normal)

/-- ASH (R271): arithmetic shift of `AC[ac]`. -/
def execAsh (ac : AcNum) (m : AddrPart) (s : State) : Result := shiftOne ashWord ac m s

/-- ROT (R272): rotate `AC[ac]`. -/
def execRot (ac : AcNum) (m : AddrPart) (s : State) : Result := shiftOne rotWord ac m s

/-- LSH (R273): logical shift of `AC[ac]`. -/
def execLsh (ac : AcNum) (m : AddrPart) (s : State) : Result := shiftOne lshWord ac m s

/-- ASHC (R274): arithmetic shift of the pair. -/
def execAshc (ac : AcNum) (m : AddrPart) (s : State) : Result := shiftTwo ashcWords ac m s

/-- ROTC (R275): rotate the pair. -/
def execRotc (ac : AcNum) (m : AddrPart) (s : State) : Result := shiftTwo rotcWords ac m s

/-- LSHC (R276): logical shift of the pair. -/
def execLshc (ac : AcNum) (m : AddrPart) (s : State) : Result := shiftTwo lshcWords ac m s

end Sys2Proof.Machine
end

