-- ==== Sys2Proof/Machine/Dispatch.lean ====
section
/-!
DEFINITION. What each instruction does: one arm per constructor, each a direct call of its meaning (R96).
-/

namespace Sys2Proof.Machine

/-- The dispatch of an instruction to its meaning. -/
def exec (i : Instr) (s : State) : Host.Outcome State Fault Refusal :=
  match i with
  | .move ac m => Sys2Proof.Machine.execMove ac m s
  | .movei ac m => Sys2Proof.Machine.execMovei ac m s
  | .movem ac m => Sys2Proof.Machine.execMovem ac m s
  | .moves ac m => Sys2Proof.Machine.execMoves ac m s
  | .movs ac m => Sys2Proof.Machine.execMovs ac m s
  | .movsi ac m => Sys2Proof.Machine.execMovsi ac m s
  | .movsm ac m => Sys2Proof.Machine.execMovsm ac m s
  | .movss ac m => Sys2Proof.Machine.execMovss ac m s
  | .movn ac m => Sys2Proof.Machine.execMovn ac m s
  | .movni ac m => Sys2Proof.Machine.execMovni ac m s
  | .movnm ac m => Sys2Proof.Machine.execMovnm ac m s
  | .movns ac m => Sys2Proof.Machine.execMovns ac m s
  | .movm ac m => Sys2Proof.Machine.execMovm ac m s
  | .movmi ac m => Sys2Proof.Machine.execMovmi ac m s
  | .movmm ac m => Sys2Proof.Machine.execMovmm ac m s
  | .movms ac m => Sys2Proof.Machine.execMovms ac m s
  | .exch ac m => Sys2Proof.Machine.execExch ac m s
  | .blt ac m => Sys2Proof.Machine.execBlt ac m s
  | .dmove ac m => Sys2Proof.Machine.execDmove ac m s
  | .dmovn ac m => Sys2Proof.Machine.execDmovn ac m s
  | .dmovem ac m => Sys2Proof.Machine.execDmovem ac m s
  | .dmovnm ac m => Sys2Proof.Machine.execDmovnm ac m s
  | .add ac m => Sys2Proof.Machine.execAdd ac m s
  | .addi ac m => Sys2Proof.Machine.execAddi ac m s
  | .addm ac m => Sys2Proof.Machine.execAddm ac m s
  | .addb ac m => Sys2Proof.Machine.execAddb ac m s
  | .sub ac m => Sys2Proof.Machine.execSub ac m s
  | .subi ac m => Sys2Proof.Machine.execSubi ac m s
  | .subm ac m => Sys2Proof.Machine.execSubm ac m s
  | .subb ac m => Sys2Proof.Machine.execSubb ac m s
  | .imul ac m => Sys2Proof.Machine.execImul ac m s
  | .imuli ac m => Sys2Proof.Machine.execImuli ac m s
  | .imulm ac m => Sys2Proof.Machine.execImulm ac m s
  | .imulb ac m => Sys2Proof.Machine.execImulb ac m s
  | .mul ac m => Sys2Proof.Machine.execMul ac m s
  | .muli ac m => Sys2Proof.Machine.execMuli ac m s
  | .mulm ac m => Sys2Proof.Machine.execMulm ac m s
  | .mulb ac m => Sys2Proof.Machine.execMulb ac m s
  | .idiv ac m => Sys2Proof.Machine.execIdiv ac m s
  | .idivi ac m => Sys2Proof.Machine.execIdivi ac m s
  | .idivm ac m => Sys2Proof.Machine.execIdivm ac m s
  | .idivb ac m => Sys2Proof.Machine.execIdivb ac m s
  | .div ac m => Sys2Proof.Machine.execDiv ac m s
  | .divi ac m => Sys2Proof.Machine.execDivi ac m s
  | .divm ac m => Sys2Proof.Machine.execDivm ac m s
  | .divb ac m => Sys2Proof.Machine.execDivb ac m s
  | .dadd ac m => Sys2Proof.Machine.execDadd ac m s
  | .dsub ac m => Sys2Proof.Machine.execDsub ac m s
  | .dmul ac m => Sys2Proof.Machine.execDmul ac m s
  | .ddiv ac m => Sys2Proof.Machine.execDdiv ac m s
  | .setz ac m => Sys2Proof.Machine.execSetz ac m s
  | .setzi ac m => Sys2Proof.Machine.execSetzi ac m s
  | .setzm ac m => Sys2Proof.Machine.execSetzm ac m s
  | .setzb ac m => Sys2Proof.Machine.execSetzb ac m s
  | .and ac m => Sys2Proof.Machine.execAnd ac m s
  | .andi ac m => Sys2Proof.Machine.execAndi ac m s
  | .andm ac m => Sys2Proof.Machine.execAndm ac m s
  | .andb ac m => Sys2Proof.Machine.execAndb ac m s
  | .andca ac m => Sys2Proof.Machine.execAndca ac m s
  | .andcai ac m => Sys2Proof.Machine.execAndcai ac m s
  | .andcam ac m => Sys2Proof.Machine.execAndcam ac m s
  | .andcab ac m => Sys2Proof.Machine.execAndcab ac m s
  | .setm ac m => Sys2Proof.Machine.execSetm ac m s
  | .setmi ac m => Sys2Proof.Machine.execSetmi ac m s
  | .setmm ac m => Sys2Proof.Machine.execSetmm ac m s
  | .setmb ac m => Sys2Proof.Machine.execSetmb ac m s
  | .andcm ac m => Sys2Proof.Machine.execAndcm ac m s
  | .andcmi ac m => Sys2Proof.Machine.execAndcmi ac m s
  | .andcmm ac m => Sys2Proof.Machine.execAndcmm ac m s
  | .andcmb ac m => Sys2Proof.Machine.execAndcmb ac m s
  | .seta ac m => Sys2Proof.Machine.execSeta ac m s
  | .setai ac m => Sys2Proof.Machine.execSetai ac m s
  | .setam ac m => Sys2Proof.Machine.execSetam ac m s
  | .setab ac m => Sys2Proof.Machine.execSetab ac m s
  | .xor ac m => Sys2Proof.Machine.execXor ac m s
  | .xori ac m => Sys2Proof.Machine.execXori ac m s
  | .xorm ac m => Sys2Proof.Machine.execXorm ac m s
  | .xorb ac m => Sys2Proof.Machine.execXorb ac m s
  | .ior ac m => Sys2Proof.Machine.execIor ac m s
  | .iori ac m => Sys2Proof.Machine.execIori ac m s
  | .iorm ac m => Sys2Proof.Machine.execIorm ac m s
  | .iorb ac m => Sys2Proof.Machine.execIorb ac m s
  | .andcb ac m => Sys2Proof.Machine.execAndcb ac m s
  | .andcbi ac m => Sys2Proof.Machine.execAndcbi ac m s
  | .andcbm ac m => Sys2Proof.Machine.execAndcbm ac m s
  | .andcbb ac m => Sys2Proof.Machine.execAndcbb ac m s
  | .eqv ac m => Sys2Proof.Machine.execEqv ac m s
  | .eqvi ac m => Sys2Proof.Machine.execEqvi ac m s
  | .eqvm ac m => Sys2Proof.Machine.execEqvm ac m s
  | .eqvb ac m => Sys2Proof.Machine.execEqvb ac m s
  | .setca ac m => Sys2Proof.Machine.execSetca ac m s
  | .setcai ac m => Sys2Proof.Machine.execSetcai ac m s
  | .setcam ac m => Sys2Proof.Machine.execSetcam ac m s
  | .setcab ac m => Sys2Proof.Machine.execSetcab ac m s
  | .orca ac m => Sys2Proof.Machine.execOrca ac m s
  | .orcai ac m => Sys2Proof.Machine.execOrcai ac m s
  | .orcam ac m => Sys2Proof.Machine.execOrcam ac m s
  | .orcab ac m => Sys2Proof.Machine.execOrcab ac m s
  | .setcm ac m => Sys2Proof.Machine.execSetcm ac m s
  | .setcmi ac m => Sys2Proof.Machine.execSetcmi ac m s
  | .setcmm ac m => Sys2Proof.Machine.execSetcmm ac m s
  | .setcmb ac m => Sys2Proof.Machine.execSetcmb ac m s
  | .orcm ac m => Sys2Proof.Machine.execOrcm ac m s
  | .orcmi ac m => Sys2Proof.Machine.execOrcmi ac m s
  | .orcmm ac m => Sys2Proof.Machine.execOrcmm ac m s
  | .orcmb ac m => Sys2Proof.Machine.execOrcmb ac m s
  | .orcb ac m => Sys2Proof.Machine.execOrcb ac m s
  | .orcbi ac m => Sys2Proof.Machine.execOrcbi ac m s
  | .orcbm ac m => Sys2Proof.Machine.execOrcbm ac m s
  | .orcbb ac m => Sys2Proof.Machine.execOrcbb ac m s
  | .seto ac m => Sys2Proof.Machine.execSeto ac m s
  | .setoi ac m => Sys2Proof.Machine.execSetoi ac m s
  | .setom ac m => Sys2Proof.Machine.execSetom ac m s
  | .setob ac m => Sys2Proof.Machine.execSetob ac m s
  | .ash ac m => Sys2Proof.Machine.execAsh ac m s
  | .rot ac m => Sys2Proof.Machine.execRot ac m s
  | .lsh ac m => Sys2Proof.Machine.execLsh ac m s
  | .ashc ac m => Sys2Proof.Machine.execAshc ac m s
  | .rotc ac m => Sys2Proof.Machine.execRotc ac m s
  | .lshc ac m => Sys2Proof.Machine.execLshc ac m s
  | .cai ac m => Sys2Proof.Machine.execCai ac m s
  | .cail ac m => Sys2Proof.Machine.execCail ac m s
  | .caie ac m => Sys2Proof.Machine.execCaie ac m s
  | .caile ac m => Sys2Proof.Machine.execCaile ac m s
  | .caia ac m => Sys2Proof.Machine.execCaia ac m s
  | .caige ac m => Sys2Proof.Machine.execCaige ac m s
  | .cain ac m => Sys2Proof.Machine.execCain ac m s
  | .caig ac m => Sys2Proof.Machine.execCaig ac m s
  | .cam ac m => Sys2Proof.Machine.execCam ac m s
  | .caml ac m => Sys2Proof.Machine.execCaml ac m s
  | .came ac m => Sys2Proof.Machine.execCame ac m s
  | .camle ac m => Sys2Proof.Machine.execCamle ac m s
  | .cama ac m => Sys2Proof.Machine.execCama ac m s
  | .camge ac m => Sys2Proof.Machine.execCamge ac m s
  | .camn ac m => Sys2Proof.Machine.execCamn ac m s
  | .camg ac m => Sys2Proof.Machine.execCamg ac m s
  | .jump ac m => Sys2Proof.Machine.execJump ac m s
  | .jumpl ac m => Sys2Proof.Machine.execJumpl ac m s
  | .jumpe ac m => Sys2Proof.Machine.execJumpe ac m s
  | .jumple ac m => Sys2Proof.Machine.execJumple ac m s
  | .jumpa ac m => Sys2Proof.Machine.execJumpa ac m s
  | .jumpge ac m => Sys2Proof.Machine.execJumpge ac m s
  | .jumpn ac m => Sys2Proof.Machine.execJumpn ac m s
  | .jumpg ac m => Sys2Proof.Machine.execJumpg ac m s
  | .skip ac m => Sys2Proof.Machine.execSkip ac m s
  | .skipl ac m => Sys2Proof.Machine.execSkipl ac m s
  | .skipe ac m => Sys2Proof.Machine.execSkipe ac m s
  | .skiple ac m => Sys2Proof.Machine.execSkiple ac m s
  | .skipa ac m => Sys2Proof.Machine.execSkipa ac m s
  | .skipge ac m => Sys2Proof.Machine.execSkipge ac m s
  | .skipn ac m => Sys2Proof.Machine.execSkipn ac m s
  | .skipg ac m => Sys2Proof.Machine.execSkipg ac m s
  | .aoj ac m => Sys2Proof.Machine.execAoj ac m s
  | .aojl ac m => Sys2Proof.Machine.execAojl ac m s
  | .aoje ac m => Sys2Proof.Machine.execAoje ac m s
  | .aojle ac m => Sys2Proof.Machine.execAojle ac m s
  | .aoja ac m => Sys2Proof.Machine.execAoja ac m s
  | .aojge ac m => Sys2Proof.Machine.execAojge ac m s
  | .aojn ac m => Sys2Proof.Machine.execAojn ac m s
  | .aojg ac m => Sys2Proof.Machine.execAojg ac m s
  | .aos ac m => Sys2Proof.Machine.execAos ac m s
  | .aosl ac m => Sys2Proof.Machine.execAosl ac m s
  | .aose ac m => Sys2Proof.Machine.execAose ac m s
  | .aosle ac m => Sys2Proof.Machine.execAosle ac m s
  | .aosa ac m => Sys2Proof.Machine.execAosa ac m s
  | .aosge ac m => Sys2Proof.Machine.execAosge ac m s
  | .aosn ac m => Sys2Proof.Machine.execAosn ac m s
  | .aosg ac m => Sys2Proof.Machine.execAosg ac m s
  | .soj ac m => Sys2Proof.Machine.execSoj ac m s
  | .sojl ac m => Sys2Proof.Machine.execSojl ac m s
  | .soje ac m => Sys2Proof.Machine.execSoje ac m s
  | .sojle ac m => Sys2Proof.Machine.execSojle ac m s
  | .soja ac m => Sys2Proof.Machine.execSoja ac m s
  | .sojge ac m => Sys2Proof.Machine.execSojge ac m s
  | .sojn ac m => Sys2Proof.Machine.execSojn ac m s
  | .sojg ac m => Sys2Proof.Machine.execSojg ac m s
  | .sos ac m => Sys2Proof.Machine.execSos ac m s
  | .sosl ac m => Sys2Proof.Machine.execSosl ac m s
  | .sose ac m => Sys2Proof.Machine.execSose ac m s
  | .sosle ac m => Sys2Proof.Machine.execSosle ac m s
  | .sosa ac m => Sys2Proof.Machine.execSosa ac m s
  | .sosge ac m => Sys2Proof.Machine.execSosge ac m s
  | .sosn ac m => Sys2Proof.Machine.execSosn ac m s
  | .sosg ac m => Sys2Proof.Machine.execSosg ac m s
  | .aobjp ac m => Sys2Proof.Machine.execAobjp ac m s
  | .aobjn ac m => Sys2Proof.Machine.execAobjn ac m s
  | .jffo ac m => Sys2Proof.Machine.execJffo ac m s
  | .hll ac m => Sys2Proof.Machine.execHll ac m s
  | .hlli ac m => Sys2Proof.Machine.execHlli ac m s
  | .hllm ac m => Sys2Proof.Machine.execHllm ac m s
  | .hlls ac m => Sys2Proof.Machine.execHlls ac m s
  | .hrl ac m => Sys2Proof.Machine.execHrl ac m s
  | .hrli ac m => Sys2Proof.Machine.execHrli ac m s
  | .hrlm ac m => Sys2Proof.Machine.execHrlm ac m s
  | .hrls ac m => Sys2Proof.Machine.execHrls ac m s
  | .hllz ac m => Sys2Proof.Machine.execHllz ac m s
  | .hllzi ac m => Sys2Proof.Machine.execHllzi ac m s
  | .hllzm ac m => Sys2Proof.Machine.execHllzm ac m s
  | .hllzs ac m => Sys2Proof.Machine.execHllzs ac m s
  | .hrlz ac m => Sys2Proof.Machine.execHrlz ac m s
  | .hrlzi ac m => Sys2Proof.Machine.execHrlzi ac m s
  | .hrlzm ac m => Sys2Proof.Machine.execHrlzm ac m s
  | .hrlzs ac m => Sys2Proof.Machine.execHrlzs ac m s
  | .hllo ac m => Sys2Proof.Machine.execHllo ac m s
  | .hlloi ac m => Sys2Proof.Machine.execHlloi ac m s
  | .hllom ac m => Sys2Proof.Machine.execHllom ac m s
  | .hllos ac m => Sys2Proof.Machine.execHllos ac m s
  | .hrlo ac m => Sys2Proof.Machine.execHrlo ac m s
  | .hrloi ac m => Sys2Proof.Machine.execHrloi ac m s
  | .hrlom ac m => Sys2Proof.Machine.execHrlom ac m s
  | .hrlos ac m => Sys2Proof.Machine.execHrlos ac m s
  | .hlle ac m => Sys2Proof.Machine.execHlle ac m s
  | .hllei ac m => Sys2Proof.Machine.execHllei ac m s
  | .hllem ac m => Sys2Proof.Machine.execHllem ac m s
  | .hlles ac m => Sys2Proof.Machine.execHlles ac m s
  | .hrle ac m => Sys2Proof.Machine.execHrle ac m s
  | .hrlei ac m => Sys2Proof.Machine.execHrlei ac m s
  | .hrlem ac m => Sys2Proof.Machine.execHrlem ac m s
  | .hrles ac m => Sys2Proof.Machine.execHrles ac m s
  | .hrr ac m => Sys2Proof.Machine.execHrr ac m s
  | .hrri ac m => Sys2Proof.Machine.execHrri ac m s
  | .hrrm ac m => Sys2Proof.Machine.execHrrm ac m s
  | .hrrs ac m => Sys2Proof.Machine.execHrrs ac m s
  | .hlr ac m => Sys2Proof.Machine.execHlr ac m s
  | .hlri ac m => Sys2Proof.Machine.execHlri ac m s
  | .hlrm ac m => Sys2Proof.Machine.execHlrm ac m s
  | .hlrs ac m => Sys2Proof.Machine.execHlrs ac m s
  | .hrrz ac m => Sys2Proof.Machine.execHrrz ac m s
  | .hrrzi ac m => Sys2Proof.Machine.execHrrzi ac m s
  | .hrrzm ac m => Sys2Proof.Machine.execHrrzm ac m s
  | .hrrzs ac m => Sys2Proof.Machine.execHrrzs ac m s
  | .hlrz ac m => Sys2Proof.Machine.execHlrz ac m s
  | .hlrzi ac m => Sys2Proof.Machine.execHlrzi ac m s
  | .hlrzm ac m => Sys2Proof.Machine.execHlrzm ac m s
  | .hlrzs ac m => Sys2Proof.Machine.execHlrzs ac m s
  | .hrro ac m => Sys2Proof.Machine.execHrro ac m s
  | .hrroi ac m => Sys2Proof.Machine.execHrroi ac m s
  | .hrrom ac m => Sys2Proof.Machine.execHrrom ac m s
  | .hrros ac m => Sys2Proof.Machine.execHrros ac m s
  | .hlro ac m => Sys2Proof.Machine.execHlro ac m s
  | .hlroi ac m => Sys2Proof.Machine.execHlroi ac m s
  | .hlrom ac m => Sys2Proof.Machine.execHlrom ac m s
  | .hlros ac m => Sys2Proof.Machine.execHlros ac m s
  | .hrre ac m => Sys2Proof.Machine.execHrre ac m s
  | .hrrei ac m => Sys2Proof.Machine.execHrrei ac m s
  | .hrrem ac m => Sys2Proof.Machine.execHrrem ac m s
  | .hrres ac m => Sys2Proof.Machine.execHrres ac m s
  | .hlre ac m => Sys2Proof.Machine.execHlre ac m s
  | .hlrei ac m => Sys2Proof.Machine.execHlrei ac m s
  | .hlrem ac m => Sys2Proof.Machine.execHlrem ac m s
  | .hlres ac m => Sys2Proof.Machine.execHlres ac m s
  | .trn ac m => Sys2Proof.Machine.execTrn ac m s
  | .tln ac m => Sys2Proof.Machine.execTln ac m s
  | .trne ac m => Sys2Proof.Machine.execTrne ac m s
  | .tlne ac m => Sys2Proof.Machine.execTlne ac m s
  | .trna ac m => Sys2Proof.Machine.execTrna ac m s
  | .tlna ac m => Sys2Proof.Machine.execTlna ac m s
  | .trnn ac m => Sys2Proof.Machine.execTrnn ac m s
  | .tlnn ac m => Sys2Proof.Machine.execTlnn ac m s
  | .tdn ac m => Sys2Proof.Machine.execTdn ac m s
  | .tsn ac m => Sys2Proof.Machine.execTsn ac m s
  | .tdne ac m => Sys2Proof.Machine.execTdne ac m s
  | .tsne ac m => Sys2Proof.Machine.execTsne ac m s
  | .tdna ac m => Sys2Proof.Machine.execTdna ac m s
  | .tsna ac m => Sys2Proof.Machine.execTsna ac m s
  | .tdnn ac m => Sys2Proof.Machine.execTdnn ac m s
  | .tsnn ac m => Sys2Proof.Machine.execTsnn ac m s
  | .trz ac m => Sys2Proof.Machine.execTrz ac m s
  | .tlz ac m => Sys2Proof.Machine.execTlz ac m s
  | .trze ac m => Sys2Proof.Machine.execTrze ac m s
  | .tlze ac m => Sys2Proof.Machine.execTlze ac m s
  | .trza ac m => Sys2Proof.Machine.execTrza ac m s
  | .tlza ac m => Sys2Proof.Machine.execTlza ac m s
  | .trzn ac m => Sys2Proof.Machine.execTrzn ac m s
  | .tlzn ac m => Sys2Proof.Machine.execTlzn ac m s
  | .tdz ac m => Sys2Proof.Machine.execTdz ac m s
  | .tsz ac m => Sys2Proof.Machine.execTsz ac m s
  | .tdze ac m => Sys2Proof.Machine.execTdze ac m s
  | .tsze ac m => Sys2Proof.Machine.execTsze ac m s
  | .tdza ac m => Sys2Proof.Machine.execTdza ac m s
  | .tsza ac m => Sys2Proof.Machine.execTsza ac m s
  | .tdzn ac m => Sys2Proof.Machine.execTdzn ac m s
  | .tszn ac m => Sys2Proof.Machine.execTszn ac m s
  | .trc ac m => Sys2Proof.Machine.execTrc ac m s
  | .tlc ac m => Sys2Proof.Machine.execTlc ac m s
  | .trce ac m => Sys2Proof.Machine.execTrce ac m s
  | .tlce ac m => Sys2Proof.Machine.execTlce ac m s
  | .trca ac m => Sys2Proof.Machine.execTrca ac m s
  | .tlca ac m => Sys2Proof.Machine.execTlca ac m s
  | .trcn ac m => Sys2Proof.Machine.execTrcn ac m s
  | .tlcn ac m => Sys2Proof.Machine.execTlcn ac m s
  | .tdc ac m => Sys2Proof.Machine.execTdc ac m s
  | .tsc ac m => Sys2Proof.Machine.execTsc ac m s
  | .tdce ac m => Sys2Proof.Machine.execTdce ac m s
  | .tsce ac m => Sys2Proof.Machine.execTsce ac m s
  | .tdca ac m => Sys2Proof.Machine.execTdca ac m s
  | .tsca ac m => Sys2Proof.Machine.execTsca ac m s
  | .tdcn ac m => Sys2Proof.Machine.execTdcn ac m s
  | .tscn ac m => Sys2Proof.Machine.execTscn ac m s
  | .tro ac m => Sys2Proof.Machine.execTro ac m s
  | .tlo ac m => Sys2Proof.Machine.execTlo ac m s
  | .troe ac m => Sys2Proof.Machine.execTroe ac m s
  | .tloe ac m => Sys2Proof.Machine.execTloe ac m s
  | .troa ac m => Sys2Proof.Machine.execTroa ac m s
  | .tloa ac m => Sys2Proof.Machine.execTloa ac m s
  | .tron ac m => Sys2Proof.Machine.execTron ac m s
  | .tlon ac m => Sys2Proof.Machine.execTlon ac m s
  | .tdo ac m => Sys2Proof.Machine.execTdo ac m s
  | .tso ac m => Sys2Proof.Machine.execTso ac m s
  | .tdoe ac m => Sys2Proof.Machine.execTdoe ac m s
  | .tsoe ac m => Sys2Proof.Machine.execTsoe ac m s
  | .tdoa ac m => Sys2Proof.Machine.execTdoa ac m s
  | .tsoa ac m => Sys2Proof.Machine.execTsoa ac m s
  | .tdon ac m => Sys2Proof.Machine.execTdon ac m s
  | .tson ac m => Sys2Proof.Machine.execTson ac m s
  | .jrst m => Sys2Proof.Machine.execJrst m s
  | .portal m => Sys2Proof.Machine.execPortal m s
  | .jrstf m => Sys2Proof.Machine.execJrstf m s
  | .halt m => Sys2Proof.Machine.execHalt m s
  | .jrst10 m => Sys2Proof.Machine.execJrst10 m s
  | .jen m => Sys2Proof.Machine.execJen m s
  | .jrstFn3 m => Sys2Proof.Machine.execJrstFn3 m s
  | .jrstFn5 m => Sys2Proof.Machine.execJrstFn5 m s
  | .jrstFn6 m => Sys2Proof.Machine.execJrstFn6 m s
  | .jrstFn7 m => Sys2Proof.Machine.execJrstFn7 m s
  | .jrstFn11 m => Sys2Proof.Machine.execJrstFn11 m s
  | .jrstFn13 m => Sys2Proof.Machine.execJrstFn13 m s
  | .jrstFn14 m => Sys2Proof.Machine.execJrstFn14 m s
  | .jrstFn15 m => Sys2Proof.Machine.execJrstFn15 m s
  | .jrstFn16 m => Sys2Proof.Machine.execJrstFn16 m s
  | .jrstFn17 m => Sys2Proof.Machine.execJrstFn17 m s
  | .jfcl ac m => Sys2Proof.Machine.execJfcl ac m s
  | .xct ac m => Sys2Proof.Machine.execXct ac m s
  | .jsr ac m => Sys2Proof.Machine.execJsr ac m s
  | .jsp ac m => Sys2Proof.Machine.execJsp ac m s
  | .jsa ac m => Sys2Proof.Machine.execJsa ac m s
  | .jra ac m => Sys2Proof.Machine.execJra ac m s
  | .pushj ac m => Sys2Proof.Machine.execPushj ac m s
  | .popj ac m => Sys2Proof.Machine.execPopj ac m s
  | .push ac m => Sys2Proof.Machine.execPush ac m s
  | .pop ac m => Sys2Proof.Machine.execPop ac m s
  | .adjsp ac m => Sys2Proof.Machine.execAdjsp ac m s
  | .ibp m => Sys2Proof.Machine.execIbp m s
  | .adjbp ac m => Sys2Proof.Machine.execAdjbp ac m s
  | .ildb ac m => Sys2Proof.Machine.execIldb ac m s
  | .ldb ac m => Sys2Proof.Machine.execLdb ac m s
  | .idpb ac m => Sys2Proof.Machine.execIdpb ac m s
  | .dpb ac m => Sys2Proof.Machine.execDpb ac m s
  | .muuo ac m => Sys2Proof.Machine.execMuuo ac m s
  | .luuo001 ac m => Sys2Proof.Machine.execLuuo001 ac m s
  | .luuo002 ac m => Sys2Proof.Machine.execLuuo002 ac m s
  | .luuo003 ac m => Sys2Proof.Machine.execLuuo003 ac m s
  | .luuo004 ac m => Sys2Proof.Machine.execLuuo004 ac m s
  | .luuo005 ac m => Sys2Proof.Machine.execLuuo005 ac m s
  | .luuo006 ac m => Sys2Proof.Machine.execLuuo006 ac m s
  | .luuo007 ac m => Sys2Proof.Machine.execLuuo007 ac m s
  | .luuo010 ac m => Sys2Proof.Machine.execLuuo010 ac m s
  | .luuo011 ac m => Sys2Proof.Machine.execLuuo011 ac m s
  | .luuo012 ac m => Sys2Proof.Machine.execLuuo012 ac m s
  | .luuo013 ac m => Sys2Proof.Machine.execLuuo013 ac m s
  | .luuo014 ac m => Sys2Proof.Machine.execLuuo014 ac m s
  | .luuo015 ac m => Sys2Proof.Machine.execLuuo015 ac m s
  | .luuo016 ac m => Sys2Proof.Machine.execLuuo016 ac m s
  | .luuo017 ac m => Sys2Proof.Machine.execLuuo017 ac m s
  | .luuo020 ac m => Sys2Proof.Machine.execLuuo020 ac m s
  | .luuo021 ac m => Sys2Proof.Machine.execLuuo021 ac m s
  | .luuo022 ac m => Sys2Proof.Machine.execLuuo022 ac m s
  | .luuo023 ac m => Sys2Proof.Machine.execLuuo023 ac m s
  | .luuo024 ac m => Sys2Proof.Machine.execLuuo024 ac m s
  | .luuo025 ac m => Sys2Proof.Machine.execLuuo025 ac m s
  | .luuo026 ac m => Sys2Proof.Machine.execLuuo026 ac m s
  | .luuo027 ac m => Sys2Proof.Machine.execLuuo027 ac m s
  | .luuo030 ac m => Sys2Proof.Machine.execLuuo030 ac m s
  | .luuo031 ac m => Sys2Proof.Machine.execLuuo031 ac m s
  | .luuo032 ac m => Sys2Proof.Machine.execLuuo032 ac m s
  | .luuo033 ac m => Sys2Proof.Machine.execLuuo033 ac m s
  | .luuo034 ac m => Sys2Proof.Machine.execLuuo034 ac m s
  | .luuo035 ac m => Sys2Proof.Machine.execLuuo035 ac m s
  | .luuo036 ac m => Sys2Proof.Machine.execLuuo036 ac m s
  | .luuo037 ac m => Sys2Proof.Machine.execLuuo037 ac m s
  | .muuo040 ac m => Sys2Proof.Machine.execMuuo040 ac m s
  | .muuo041 ac m => Sys2Proof.Machine.execMuuo041 ac m s
  | .muuo042 ac m => Sys2Proof.Machine.execMuuo042 ac m s
  | .muuo043 ac m => Sys2Proof.Machine.execMuuo043 ac m s
  | .muuo044 ac m => Sys2Proof.Machine.execMuuo044 ac m s
  | .muuo045 ac m => Sys2Proof.Machine.execMuuo045 ac m s
  | .muuo046 ac m => Sys2Proof.Machine.execMuuo046 ac m s
  | .muuo047 ac m => Sys2Proof.Machine.execMuuo047 ac m s
  | .muuo050 ac m => Sys2Proof.Machine.execMuuo050 ac m s
  | .muuo051 ac m => Sys2Proof.Machine.execMuuo051 ac m s
  | .muuo052 ac m => Sys2Proof.Machine.execMuuo052 ac m s
  | .muuo053 ac m => Sys2Proof.Machine.execMuuo053 ac m s
  | .muuo054 ac m => Sys2Proof.Machine.execMuuo054 ac m s
  | .muuo055 ac m => Sys2Proof.Machine.execMuuo055 ac m s
  | .muuo056 ac m => Sys2Proof.Machine.execMuuo056 ac m s
  | .muuo057 ac m => Sys2Proof.Machine.execMuuo057 ac m s
  | .muuo060 ac m => Sys2Proof.Machine.execMuuo060 ac m s
  | .muuo061 ac m => Sys2Proof.Machine.execMuuo061 ac m s
  | .muuo062 ac m => Sys2Proof.Machine.execMuuo062 ac m s
  | .muuo063 ac m => Sys2Proof.Machine.execMuuo063 ac m s
  | .muuo064 ac m => Sys2Proof.Machine.execMuuo064 ac m s
  | .muuo065 ac m => Sys2Proof.Machine.execMuuo065 ac m s
  | .muuo066 ac m => Sys2Proof.Machine.execMuuo066 ac m s
  | .muuo067 ac m => Sys2Proof.Machine.execMuuo067 ac m s
  | .muuo070 ac m => Sys2Proof.Machine.execMuuo070 ac m s
  | .muuo071 ac m => Sys2Proof.Machine.execMuuo071 ac m s
  | .muuo072 ac m => Sys2Proof.Machine.execMuuo072 ac m s
  | .muuo073 ac m => Sys2Proof.Machine.execMuuo073 ac m s
  | .muuo074 ac m => Sys2Proof.Machine.execMuuo074 ac m s
  | .muuo075 ac m => Sys2Proof.Machine.execMuuo075 ac m s
  | .muuo076 ac m => Sys2Proof.Machine.execMuuo076 ac m s
  | .muuo077 ac m => Sys2Proof.Machine.execMuuo077 ac m s
  | .unassigned100 ac m => Sys2Proof.Machine.execUnassigned100 ac m s
  | .unassigned101 ac m => Sys2Proof.Machine.execUnassigned101 ac m s
  | .unassigned102 ac m => Sys2Proof.Machine.execUnassigned102 ac m s
  | .unassigned103 ac m => Sys2Proof.Machine.execUnassigned103 ac m s
  | .unassigned104 ac m => Sys2Proof.Machine.execUnassigned104 ac m s
  | .unassigned106 ac m => Sys2Proof.Machine.execUnassigned106 ac m s
  | .unassigned107 ac m => Sys2Proof.Machine.execUnassigned107 ac m s
  | .unassigned110 ac m => Sys2Proof.Machine.execUnassigned110 ac m s
  | .unassigned111 ac m => Sys2Proof.Machine.execUnassigned111 ac m s
  | .unassigned112 ac m => Sys2Proof.Machine.execUnassigned112 ac m s
  | .unassigned113 ac m => Sys2Proof.Machine.execUnassigned113 ac m s
  | .unassigned122 ac m => Sys2Proof.Machine.execUnassigned122 ac m s
  | .unassigned123 ac m => Sys2Proof.Machine.execUnassigned123 ac m s
  | .unassigned126 ac m => Sys2Proof.Machine.execUnassigned126 ac m s
  | .unassigned127 ac m => Sys2Proof.Machine.execUnassigned127 ac m s
  | .unassigned130 ac m => Sys2Proof.Machine.execUnassigned130 ac m s
  | .unassigned131 ac m => Sys2Proof.Machine.execUnassigned131 ac m s
  | .unassigned132 ac m => Sys2Proof.Machine.execUnassigned132 ac m s
  | .unassigned140 ac m => Sys2Proof.Machine.execUnassigned140 ac m s
  | .unassigned141 ac m => Sys2Proof.Machine.execUnassigned141 ac m s
  | .unassigned142 ac m => Sys2Proof.Machine.execUnassigned142 ac m s
  | .unassigned143 ac m => Sys2Proof.Machine.execUnassigned143 ac m s
  | .unassigned144 ac m => Sys2Proof.Machine.execUnassigned144 ac m s
  | .unassigned145 ac m => Sys2Proof.Machine.execUnassigned145 ac m s
  | .unassigned146 ac m => Sys2Proof.Machine.execUnassigned146 ac m s
  | .unassigned147 ac m => Sys2Proof.Machine.execUnassigned147 ac m s
  | .unassigned150 ac m => Sys2Proof.Machine.execUnassigned150 ac m s
  | .unassigned151 ac m => Sys2Proof.Machine.execUnassigned151 ac m s
  | .unassigned152 ac m => Sys2Proof.Machine.execUnassigned152 ac m s
  | .unassigned153 ac m => Sys2Proof.Machine.execUnassigned153 ac m s
  | .unassigned154 ac m => Sys2Proof.Machine.execUnassigned154 ac m s
  | .unassigned155 ac m => Sys2Proof.Machine.execUnassigned155 ac m s
  | .unassigned156 ac m => Sys2Proof.Machine.execUnassigned156 ac m s
  | .unassigned157 ac m => Sys2Proof.Machine.execUnassigned157 ac m s
  | .unassigned160 ac m => Sys2Proof.Machine.execUnassigned160 ac m s
  | .unassigned161 ac m => Sys2Proof.Machine.execUnassigned161 ac m s
  | .unassigned162 ac m => Sys2Proof.Machine.execUnassigned162 ac m s
  | .unassigned163 ac m => Sys2Proof.Machine.execUnassigned163 ac m s
  | .unassigned164 ac m => Sys2Proof.Machine.execUnassigned164 ac m s
  | .unassigned165 ac m => Sys2Proof.Machine.execUnassigned165 ac m s
  | .unassigned166 ac m => Sys2Proof.Machine.execUnassigned166 ac m s
  | .unassigned167 ac m => Sys2Proof.Machine.execUnassigned167 ac m s
  | .unassigned170 ac m => Sys2Proof.Machine.execUnassigned170 ac m s
  | .unassigned171 ac m => Sys2Proof.Machine.execUnassigned171 ac m s
  | .unassigned172 ac m => Sys2Proof.Machine.execUnassigned172 ac m s
  | .unassigned173 ac m => Sys2Proof.Machine.execUnassigned173 ac m s
  | .unassigned174 ac m => Sys2Proof.Machine.execUnassigned174 ac m s
  | .unassigned175 ac m => Sys2Proof.Machine.execUnassigned175 ac m s
  | .unassigned176 ac m => Sys2Proof.Machine.execUnassigned176 ac m s
  | .unassigned177 ac m => Sys2Proof.Machine.execUnassigned177 ac m s
  | .unassigned247 ac m => Sys2Proof.Machine.execUnassigned247 ac m s
  | .unassigned257 ac m => Sys2Proof.Machine.execUnassigned257 ac m s
  | .blki dev m => Sys2Proof.Machine.execBlki dev m s
  | .datai dev m => Sys2Proof.Machine.execDatai dev m s
  | .blko dev m => Sys2Proof.Machine.execBlko dev m s
  | .datao dev m => Sys2Proof.Machine.execDatao dev m s
  | .cono dev m => Sys2Proof.Machine.execCono dev m s
  | .coni dev m => Sys2Proof.Machine.execConi dev m s
  | .consz dev m => Sys2Proof.Machine.execConsz dev m s
  | .conso dev m => Sys2Proof.Machine.execConso dev m s

end Sys2Proof.Machine
end

