-- ==== Sys2Proof/Machine/Compiled.lean ====
section
/-!
DEFINITION. Running one instruction word: `execWord` is `exec` of the decoded word, and that is its meaning. Lean's
runtime cannot hold an `Instr` (see Decode.lean), so compiled code takes the meaning from a table of meanings in opcode
order instead; `execWord_eq_compiled` proves the two the same function.
-/

namespace Sys2Proof.Machine

/-- The dispatch of a word (R82, R96): decode, then run. -/
noncomputable def execWord (w : Word) (s : State) : Result := exec (decode w) s

/-- The meaning of a decoder entry. -/
noncomputable def run (f : AcNum → AddrPart → Instr) (ac : AcNum) (m : AddrPart) (s : State) : Result := exec (f ac m) s

/-- `jrstTable`'s meanings. -/
def jrstMeanings : List (AddrPart → State → Result) :=
  [execJrst, execPortal, execJrstf, execJrstFn3, execHalt, execJrstFn5, execJrstFn6, execJrstFn7,
   execJrst10, execJrstFn11, execJen, execJrstFn13, execJrstFn14, execJrstFn15, execJrstFn16, execJrstFn17]

/-- `decodeJrst`'s meaning. -/
def jrstMeaning (ac : AcNum) (m : AddrPart) (s : State) : Result := (jrstMeanings.getD ac.toNat execJrst) m s

/-- `decodeByteAdjust`'s meaning. -/
def byteAdjustMeaning (ac : AcNum) (m : AddrPart) (s : State) : Result :=
  if ac = 0 then execIbp m s else execAdjbp ac m s

/-- `opcodes0`'s meanings. -/
def meanings0 : List (AcNum → AddrPart → State → Result) :=
  [execMuuo, execLuuo001, execLuuo002, execLuuo003,
   execLuuo004, execLuuo005, execLuuo006, execLuuo007,
   execLuuo010, execLuuo011, execLuuo012, execLuuo013,
   execLuuo014, execLuuo015, execLuuo016, execLuuo017,
   execLuuo020, execLuuo021, execLuuo022, execLuuo023,
   execLuuo024, execLuuo025, execLuuo026, execLuuo027,
   execLuuo030, execLuuo031, execLuuo032, execLuuo033,
   execLuuo034, execLuuo035, execLuuo036, execLuuo037,
   execMuuo040, execMuuo041, execMuuo042, execMuuo043,
   execMuuo044, execMuuo045, execMuuo046, execMuuo047,
   execMuuo050, execMuuo051, execMuuo052, execMuuo053,
   execMuuo054, execMuuo055, execMuuo056, execMuuo057,
   execMuuo060, execMuuo061, execMuuo062, execMuuo063,
   execMuuo064, execMuuo065, execMuuo066, execMuuo067,
   execMuuo070, execMuuo071, execMuuo072, execMuuo073,
   execMuuo074, execMuuo075, execMuuo076, execMuuo077]

/-- `opcodes1`'s meanings. -/
def meanings1 : List (AcNum → AddrPart → State → Result) :=
  [execUnassigned100, execUnassigned101, execUnassigned102, execUnassigned103,
   execUnassigned104, execAdjsp, execUnassigned106, execUnassigned107,
   execUnassigned110, execUnassigned111, execUnassigned112, execUnassigned113,
   execDadd, execDsub, execDmul, execDdiv,
   execDmove, execDmovn, execUnassigned122, execUnassigned123,
   execDmovem, execDmovnm, execUnassigned126, execUnassigned127,
   execUnassigned130, execUnassigned131, execUnassigned132, byteAdjustMeaning,
   execIldb, execLdb, execIdpb, execDpb,
   execUnassigned140, execUnassigned141, execUnassigned142, execUnassigned143,
   execUnassigned144, execUnassigned145, execUnassigned146, execUnassigned147,
   execUnassigned150, execUnassigned151, execUnassigned152, execUnassigned153,
   execUnassigned154, execUnassigned155, execUnassigned156, execUnassigned157,
   execUnassigned160, execUnassigned161, execUnassigned162, execUnassigned163,
   execUnassigned164, execUnassigned165, execUnassigned166, execUnassigned167,
   execUnassigned170, execUnassigned171, execUnassigned172, execUnassigned173,
   execUnassigned174, execUnassigned175, execUnassigned176, execUnassigned177]

/-- `opcodes2`'s meanings. -/
def meanings2 : List (AcNum → AddrPart → State → Result) :=
  [execMove, execMovei, execMovem, execMoves,
   execMovs, execMovsi, execMovsm, execMovss,
   execMovn, execMovni, execMovnm, execMovns,
   execMovm, execMovmi, execMovmm, execMovms,
   execImul, execImuli, execImulm, execImulb,
   execMul, execMuli, execMulm, execMulb,
   execIdiv, execIdivi, execIdivm, execIdivb,
   execDiv, execDivi, execDivm, execDivb,
   execAsh, execRot, execLsh, execJffo,
   execAshc, execRotc, execLshc, execUnassigned247,
   execExch, execBlt, execAobjp, execAobjn,
   jrstMeaning, execJfcl, execXct, execUnassigned257,
   execPushj, execPush, execPop, execPopj,
   execJsr, execJsp, execJsa, execJra,
   execAdd, execAddi, execAddm, execAddb,
   execSub, execSubi, execSubm, execSubb]

/-- `opcodes3`'s meanings. -/
def meanings3 : List (AcNum → AddrPart → State → Result) :=
  [execCai, execCail, execCaie, execCaile,
   execCaia, execCaige, execCain, execCaig,
   execCam, execCaml, execCame, execCamle,
   execCama, execCamge, execCamn, execCamg,
   execJump, execJumpl, execJumpe, execJumple,
   execJumpa, execJumpge, execJumpn, execJumpg,
   execSkip, execSkipl, execSkipe, execSkiple,
   execSkipa, execSkipge, execSkipn, execSkipg,
   execAoj, execAojl, execAoje, execAojle,
   execAoja, execAojge, execAojn, execAojg,
   execAos, execAosl, execAose, execAosle,
   execAosa, execAosge, execAosn, execAosg,
   execSoj, execSojl, execSoje, execSojle,
   execSoja, execSojge, execSojn, execSojg,
   execSos, execSosl, execSose, execSosle,
   execSosa, execSosge, execSosn, execSosg]

/-- `opcodes4`'s meanings. -/
def meanings4 : List (AcNum → AddrPart → State → Result) :=
  [execSetz, execSetzi, execSetzm, execSetzb,
   execAnd, execAndi, execAndm, execAndb,
   execAndca, execAndcai, execAndcam, execAndcab,
   execSetm, execSetmi, execSetmm, execSetmb,
   execAndcm, execAndcmi, execAndcmm, execAndcmb,
   execSeta, execSetai, execSetam, execSetab,
   execXor, execXori, execXorm, execXorb,
   execIor, execIori, execIorm, execIorb,
   execAndcb, execAndcbi, execAndcbm, execAndcbb,
   execEqv, execEqvi, execEqvm, execEqvb,
   execSetca, execSetcai, execSetcam, execSetcab,
   execOrca, execOrcai, execOrcam, execOrcab,
   execSetcm, execSetcmi, execSetcmm, execSetcmb,
   execOrcm, execOrcmi, execOrcmm, execOrcmb,
   execOrcb, execOrcbi, execOrcbm, execOrcbb,
   execSeto, execSetoi, execSetom, execSetob]

/-- `opcodes5`'s meanings. -/
def meanings5 : List (AcNum → AddrPart → State → Result) :=
  [execHll, execHlli, execHllm, execHlls,
   execHrl, execHrli, execHrlm, execHrls,
   execHllz, execHllzi, execHllzm, execHllzs,
   execHrlz, execHrlzi, execHrlzm, execHrlzs,
   execHllo, execHlloi, execHllom, execHllos,
   execHrlo, execHrloi, execHrlom, execHrlos,
   execHlle, execHllei, execHllem, execHlles,
   execHrle, execHrlei, execHrlem, execHrles,
   execHrr, execHrri, execHrrm, execHrrs,
   execHlr, execHlri, execHlrm, execHlrs,
   execHrrz, execHrrzi, execHrrzm, execHrrzs,
   execHlrz, execHlrzi, execHlrzm, execHlrzs,
   execHrro, execHrroi, execHrrom, execHrros,
   execHlro, execHlroi, execHlrom, execHlros,
   execHrre, execHrrei, execHrrem, execHrres,
   execHlre, execHlrei, execHlrem, execHlres]

/-- `opcodes6`'s meanings. -/
def meanings6 : List (AcNum → AddrPart → State → Result) :=
  [execTrn, execTln, execTrne, execTlne,
   execTrna, execTlna, execTrnn, execTlnn,
   execTdn, execTsn, execTdne, execTsne,
   execTdna, execTsna, execTdnn, execTsnn,
   execTrz, execTlz, execTrze, execTlze,
   execTrza, execTlza, execTrzn, execTlzn,
   execTdz, execTsz, execTdze, execTsze,
   execTdza, execTsza, execTdzn, execTszn,
   execTrc, execTlc, execTrce, execTlce,
   execTrca, execTlca, execTrcn, execTlcn,
   execTdc, execTsc, execTdce, execTsce,
   execTdca, execTsca, execTdcn, execTscn,
   execTro, execTlo, execTroe, execTloe,
   execTroa, execTloa, execTron, execTlon,
   execTdo, execTso, execTdoe, execTsoe,
   execTdoa, execTsoa, execTdon, execTson]

/-- `opcodeTable`'s meanings. -/
def meaningTable : List (AcNum → AddrPart → State → Result) :=
  meanings0 ++ meanings1 ++ meanings2 ++ meanings3 ++ meanings4 ++ meanings5 ++ meanings6

/-- `ioTable`'s meanings. -/
def ioMeanings : List (DevId → AddrPart → State → Result) :=
  [execBlki, execDatai, execBlko, execDatao, execCono, execConi, execConsz, execConso]

/-- `decodeIo`'s meaning. -/
def ioMeaning (sub : BitVec 3) (dev : DevId) (m : AddrPart) (s : State) : Result :=
  (ioMeanings.getD sub.toNat execConso) dev m s

/-- `execWord` without building an `Instr`. -/
def execWordCompiled (w : Word) (s : State) : Result :=
  match meaningTable[(opField w).toNat]? with
  | some f => f (acField w) (AddrPart.ofWord w) s
  | none => ioMeaning (subField w) (devField w) (AddrPart.ofWord w) s

theorem run_decodeJrst : run decodeJrst = jrstMeaning := by
  funext ac m s
  have h : jrstMeanings.getD ac.toNat execJrst = fun m s => exec (jrstTable.getD ac.toNat .jrst m) s :=
    List.getD_map (n := ac.toNat) jrstTable Instr.jrst (fun f m s => exec (f m) s)
  rw [jrstMeaning, h]
  rfl

theorem run_decodeByteAdjust : run decodeByteAdjust = byteAdjustMeaning := by
  funext ac m s
  unfold run decodeByteAdjust byteAdjustMeaning
  split <;> rfl

theorem opcodes1_meanings : opcodes1.map run = meanings1 := by
  simp only [opcodes1, List.map, run_decodeByteAdjust]
  rfl

theorem opcodes2_meanings : opcodes2.map run = meanings2 := by
  simp only [opcodes2, List.map, run_decodeJrst]
  rfl

theorem opcodeTable_meanings : opcodeTable.map run = meaningTable := by
  have h0 : opcodes0.map run = meanings0 := rfl
  have h3 : opcodes3.map run = meanings3 := rfl
  have h4 : opcodes4.map run = meanings4 := rfl
  have h5 : opcodes5.map run = meanings5 := rfl
  have h6 : opcodes6.map run = meanings6 := rfl
  simp only [opcodeTable, meaningTable, List.map_append, h0, opcodes1_meanings, opcodes2_meanings, h3, h4, h5, h6]

theorem exec_decodeIo (sub : BitVec 3) (dev : DevId) (m : AddrPart) (s : State) :
    exec (decodeIo sub dev m) s = ioMeaning sub dev m s := by
  have h : ioMeanings.getD sub.toNat execConso = fun dev m s => exec (ioTable.getD sub.toNat .conso dev m) s :=
    List.getD_map (n := sub.toNat) ioTable Instr.conso (fun f dev m s => exec (f dev m) s)
  rw [ioMeaning, h]
  rfl

/-- Compiled code runs the same function. -/
@[csimp] theorem execWord_eq_compiled : @execWord = @execWordCompiled := by
  funext w s
  unfold execWord execWordCompiled decode
  rw [← opcodeTable_meanings, List.getElem?_map]
  cases opcodeTable[(opField w).toNat]? with
  | none => exact exec_decodeIo ..
  | some f => rfl

end Sys2Proof.Machine
end

