-- ==== Sys2Proof/Machine/Cycle.lean ====
section
/-!
DEFINITION. The instruction cycle (R620): the boundary, where a trap or an interrupt may divert the fetch, the
fetch, and the dispatch loop of XCT and LUUO.
-/

namespace Sys2Proof.Machine

/-- Steps 1 to 3 of the cycle: the address to fetch from, and the state with the exception cycle, if any, entered
(R620, R641, R650, R654). A trap goes before an interrupt (R646). -/
def State.boundary (s : State) : VAddr × State :=
  let s := { s with exceptionCycle := none, redispatch := none }
  if s.trapDue then (s.trapVector, s.takeTrap)
  else match s.piScan with
    | some l => (s.interruptVector l, s.grant l)
    | none => (s.pc, s)

/-- Steps 5 to 7: dispatch the word, and while the disposition is re-dispatch, the next one; `fuel` more re-dispatches
are allowed (R625). -/
def runChain (fuel : Nat) (w : Word) (s : State) : Result :=
  match execWord w s with
  | .next t =>
    match t.redispatch with
    | none => .next t
    | some w' =>
      match fuel with
      | 0 => .fault .xctLoop
      | k + 1 => runChain k w' { t with redispatch := none }
  | .fault f => .fault f
  | .refused r => .refused r

/-- Step 8 besides the commit of PC, which the instruction's disposition made: ICOUNT rises, the exception cycle ends
(R33, R624, R630). -/
def State.endCycle (s : State) : State := { s with icount := s.icount + 1, exceptionCycle := none }

/-- `Cycle()` (R620). -/
def cycle (s : State) : Result :=
  match s.boundary.2.readMem s.boundary.1 with
  | .error f => .fault f
  | .ok w =>
    match runChain s.params.maxXct w s.boundary.2 with
    | .next t => .next t.endCycle
    | .fault f => .fault f
    | .refused r => .refused r

/-- A word stored where the next cycle fetches, and the machine running (log 7). DESIGN CHOICE (log 19): it is stored
there with no test of `MEMWORDS`; the fetch itself then faults as R55 says. -/
def State.placeWord (s : State) (w : Word) : State :=
  let s := { s with running := true }
  s.poke s.boundary.1 w

end Sys2Proof.Machine
end

