-- ==== Sys2Proof/Machine/Step.lean ====
section
/-!
DEFINITION. One step: one cycle while RUNNING is 1; while RUNNING is 0 no cycle is taken and the state is kept (R30,
F7 of spec/93_implementation_defined.md).
-/

namespace Sys2Proof.Machine

/-- One step of the machine. -/
def step (s : State) : Host.Outcome State Fault Refusal := if s.running then cycle s else .next s

/-- The state with an instruction word stored where the next step fetches, and RUNNING set (log 7: RUNNING is 0 after
reset and only the host sets it). Every instruction is one 36-bit word, so `nbits` chooses nothing. -/
def State.withFetchWord (s : State) (_nbits w : Nat) : State := s.placeWord (BitVec.ofNat 36 w)

end Sys2Proof.Machine
end

