-- ==== Sys2Proof/Machine/HostOps.lean ====
section
/-!
DEFINITION. What the host and the devices may do between cycles (R668, R655): functions on the state, called by no
step. The host loads with `deposit` and `setPC`, starts with `start`, and single-steps with `cycle`.
-/

namespace Sys2Proof.Machine

/-- Start or continue: RUNNING <- 1. -/
def State.start (s : State) : State := { s with running := true }

/-- The stop request: RUNNING <- 0. -/
def State.stopRequest (s : State) : State := { s with running := false }

/-- Set PC, all 30 bits. -/
def State.setPC (s : State) (a : VAddr) : State := { s with pc := a }

/-- Deposit a word at an address, or in the active bank below 16. DESIGN CHOICE (log 19): at an address of 16 or more
that is not below `MEMWORDS`, for which no rule gives the host an effect, the word is stored with no test and no fault. -/
def State.deposit (s : State) (a : VAddr) (v : Word) : State := s.poke a v

/-- Deposit in an accumulator of any bank. -/
def State.depositBank (s : State) (b : BitVec 3) (r : AcNum) (v : Word) : State :=
  { s with acs := s.acs.set (bankIndex b r).val v }

/-- Examine an address. DESIGN CHOICE (log 19): an address of 16 or more that is not below `MEMWORDS` is read as memory,
with no test and no fault. -/
def State.examine (s : State) (a : VAddr) : Word := s.peek a

/-- Write FLAGS, unrestricted. -/
def State.depositFlags (s : State) (f : BitVec 13) : State := { s with flags := f }

/-- Write ACBLK. -/
def State.selectBank (s : State) (b : BitVec 3) : State := { s with acblk := b }

/-- Write PAGING_EN. -/
def State.setPaging (s : State) (b : Bool) : State := { s with pagingEn := b }

/-- Write the controller's registers. -/
def State.depositPi (s : State) (p : InterruptController) : State := { s with pi := p }

/-- Device activity: a device changes its own `pending` and `level` (R32, R668). -/
def State.deviceActivity (s : State) (dev : DevId) (pending : Bool) (level : BitVec 3) : State :=
  { s with devices := s.devices.map (fun d => if d.id = dev then { d with pending := pending, level := level } else d) }

/-- The devices after each one's `clearIO()`: `pending` is 0, `level` is what the device makes it (R655, log 9). DESIGN
CHOICE (log 21): the devices are called in the order of the registry, by rising id; R655 gives no order. -/
def clearDevices (icount : Nat) : List Device → List IoEvent → List Device × List IoEvent
  | [], log => ([], log)
  | d :: ds, log =>
    let log := .clearIO d.id :: log
    let rest := clearDevices icount ds log
    ({ d with pending := false, level := Config.deviceLevel log icount } :: rest.1, rest.2)

/-- `ClearIO()` (R655): the controller keeps `PI.enabled` and `PI.on`, every device is cleared, by rising id (log 21). -/
def State.clearIO (s : State) : State :=
  { s with
    pi := { s.pi with held := 0, request := 0, current := none }
    devices := (clearDevices s.icount s.devices s.ioLog).1
    ioLog := (clearDevices s.icount s.devices s.ioLog).2 }

end Sys2Proof.Machine
end

