-- ==== Sys2Proof/Safety.lean ====
section
/-!
DEFINITION. The terms the statements use: what a well-kept state is, what a step that goes on is, and what it means
that an instruction writes given words in a given order and changes nothing else.
-/

namespace Sys2Proof

open Sys2Proof.Machine

/-- Device numbers strictly rising and none of them the controller's (R32). -/
def registryFrom : Nat → List Device → Bool
  | _, [] => true
  | lo, d :: ds => decide (lo ≤ d.id.toNat) && (d.id != 1) && registryFrom (d.id.toNat + 1) ds

/-- The invariant of the machine between cycles: memory is in its canonical form with every listed address below
`MEMWORDS` (R50, R54, R55), the registry is a map without the controller's id (R32), and nothing that lives for one
cycle only is left (R35). -/
structure Inv (s : State) : Prop where
  memCanonical : Memory.wf s.mem = true
  memInRange : ∀ p ∈ s.mem, p.1 < s.params.memWords
  registry : registryFrom 0 s.devices = true
  noException : s.exceptionCycle = none
  noRedispatch : s.redispatch = none

/-- A step that gives a next state: neither a model fault nor a refusal (R676). -/
def SafeStep (s : State) : Prop := ∃ t, step s = .next t

/-- The address of an accumulator of the active bank (R54). -/
def acAddr (r : AcNum) : VAddr := r.setWidth 30

/-- Register `r` of bank `b`, active or not (R20). -/
def bankWord (s : State) (b : BitVec 3) (r : AcNum) : Word := s.acs[(bankIndex b r).val]

/-- What a storage holds at an address after some words are written in order: the last write to it, else what it
held. -/
def overwrite (f : VAddr → Word) : List (VAddr × Word) → VAddr → Word
  | [], a => f a
  | w :: ws, a => overwrite (fun x => if x = w.1 then w.2 else f x) ws a

/-- Everything but storage, FLAGS and PC is the same. -/
structure SameControl (s t : State) : Prop where
  acblk : t.acblk = s.acblk
  pagingEn : t.pagingEn = s.pagingEn
  running : t.running = s.running
  pi : t.pi = s.pi
  devices : t.devices = s.devices
  icount : t.icount = s.icount
  exceptionCycle : t.exceptionCycle = s.exceptionCycle
  redispatch : t.redispatch = s.redispatch
  ioLog : t.ioLog = s.ioLog
  params : t.params = s.params

/-- From `s` to `t` the words of `writes` were stored in order, FLAGS became `flags` and PC became `pc`, and nothing
else changed: every other accumulator of the active bank and every other memory word reads as before (an accumulator
is the address `acAddr r`, so both are read by `peek`), and so does every accumulator of the other banks. -/
structure Effect (s t : State) (writes : List (VAddr × Word)) (flags : BitVec 13) (pc : VAddr) : Prop where
  storage : ∀ a, t.peek a = overwrite s.peek writes a
  banks : ∀ b r, b ≠ s.acblk → bankWord t b r = bankWord s b r
  flags : t.flags = flags
  pc : t.pc = pc
  control : SameControl s t

/-- The instruction ends in a next state with exactly this effect. -/
def Completes (i : Instr) (s : State) (writes : List (VAddr × Word)) (flags : BitVec 13) (pc : VAddr) : Prop :=
  ∃ t, exec i s = .next t ∧ Effect s t writes flags pc

/-- The instruction ends in a next state that is `base` (the start with some control state changed) but for these
words, FLAGS and PC. -/
def CompletesFrom (base : State) (i : Instr) (s : State) (writes : List (VAddr × Word)) (flags : BitVec 13)
    (pc : VAddr) : Prop :=
  ∃ t, exec i s = .next t ∧ Effect base t writes flags pc

/-- Where a skip goes: the address after `nextPC` (R630). -/
def skipPC (s : State) : VAddr := s.sec (offsetOf s.returnPC + 1)

/-- `w` if written, nothing if not. -/
def whenWritten (c : Prop) [Decidable c] (w : VAddr × Word) : List (VAddr × Word) := if c then [w] else []

/-- The right half or the left half of a word. -/
def halfOf (right : Bool) (w : Word) : Half := if right then rh w else lh w

/-- The 36-bit word saved on a call: FLAGS, five zeros, the offset of the return address (R27). -/
def returnWord (s : State) : Word := s.flags ++ (0#5) ++ offsetOf s.returnPC

/-- Whether the cycle in progress is an exception cycle of this kind. -/
def inCycle (s : State) (k : ExceptionKind) : Bool :=
  match s.exceptionCycle with
  | none => false
  | some e => e.kind = k

/-- FLAGS after the clears of PUSHJ, JSR and JSP (R529). -/
def linkageFlags (s : State) : BitVec 13 :=
  let f := s.flags &&& ~~~flagMask [.fpd, .afi, .tr1, .tr2]
  if inCycle s .interrupt then f &&& ~~~flagMask [.usr, .pub] else f

/-- The two words a monitor call stores (R581); the addresses wrap at 30 bits, the model's choice (log 14). -/
def muuoWrites (s : State) (head : BitVec 13) (e : Offset) : List (VAddr × Word) :=
  [(s.params.uptBase + 0o424, head ++ (0#5) ++ e), (s.params.uptBase + 0o425, returnWord s)]

/-- Where a monitor call finds its new PC+flags word: `UPT_BASE + 0430 + k` (R581); the sum wraps at 30 bits, the model's
choice (log 14). -/
def muuoVector (s : State) : VAddr :=
  s.params.uptBase + 0o430
    + BitVec.ofNat 30 (4 * (s.flag .usr).toNat + 2 * (s.flag .pub).toNat + (inCycle s .trap).toNat)

/-- The three process-table words that a monitor call touches exist (R55). -/
def MuuoPossible (s : State) : Prop :=
  s.present (s.params.uptBase + 0o424) = true ∧ s.present (s.params.uptBase + 0o425) = true
    ∧ s.present (muuoVector s) = true

/-- The instruction takes a monitor call: it stores the two words and loads FLAGS and PC from the new-PC word, read
after the two stores (R581). -/
def TakesMuuo (i : Instr) (s : State) (head : BitVec 13) (e : Offset) : Prop :=
  Completes i s (muuoWrites s head e)
    (headField (overwrite s.peek (muuoWrites s head e) (muuoVector s)))
    (s.sec (rh (overwrite s.peek (muuoWrites s head e) (muuoVector s))))

/-- The words of a block transfer of `n` words in order, each read after the write before it (R138): `f` is what
storage holds, `place` places an offset in the section. -/
def blockWrites (place : Offset → VAddr) : Nat → (VAddr → Word) → Offset → Offset → List (VAddr × Word)
  | 0, _, _, _ => []
  | n + 1, f, src, dst =>
    (place dst, f (place src))
      :: blockWrites place n (fun a => if a = place dst then f (place src) else f a) (src + 1) (dst + 1)

/-- Following indirection for exactly `n` words from an address part with `last` as the last word used: E and
`lastWord` at the end (R83, R85). -/
inductive Resolves (s : State) : AddrPart → Word → Nat → Offset × Word → Prop
  | direct (ap : AddrPart) (last : Word) : ap.indirect = false → Resolves s ap last 0 (s.indexed ap last)
  | follow (ap : AddrPart) (last : Word) (n : Nat) (r : Offset × Word) : ap.indirect = true →
      s.present (s.sec (s.indexed ap last).1) = true →
      Resolves s (AddrPart.ofWord (s.peek (s.sec (s.indexed ap last).1))) (s.peek (s.sec (s.indexed ap last).1)) n r →
      Resolves s ap last (n + 1) r

/-- An indirection chain that still asks for another word after `n` words were fetched (R84). -/
inductive Indirects (s : State) : AddrPart → Word → Nat → Prop
  | more (ap : AddrPart) (last : Word) : ap.indirect = true → Indirects s ap last 0
  | follow (ap : AddrPart) (last : Word) (n : Nat) : ap.indirect = true →
      s.present (s.sec (s.indexed ap last).1) = true →
      Indirects s (AddrPart.ofWord (s.peek (s.sec (s.indexed ap last).1))) (s.peek (s.sec (s.indexed ap last).1)) n →
      Indirects s ap last (n + 1)

/-- `n` re-dispatches in one cycle lead from dispatching `w` in `s` to dispatching `v` in `t` (R522, R625). -/
inductive Redispatches : State → Word → Nat → State → Word → Prop
  | here (s : State) (w : Word) : Redispatches s w 0 s w
  | next (s u t : State) (w w' v : Word) (n : Nat) : exec (decode w) s = .next u → u.redispatch = some w' →
      Redispatches { u with redispatch := none } w' n t v → Redispatches s w (n + 1) t v

-- Flags and bits as the rules give them

/-- The place of a flag among the bits 0-12 of FLAGS and of a PC+flags word (R25). -/
def flagBit : Flag → Nat
  | .aov => 0
  | .cry0 => 1
  | .cry1 => 2
  | .fov => 3
  | .fpd => 4
  | .usr => 5
  | .uio => 6
  | .pub => 7
  | .afi => 8
  | .tr2 => 9
  | .tr1 => 10
  | .fxu => 11
  | .ndv => 12

/-- What a flag restore from the word `w` makes of one flag of `old` (R28). -/
def restoredFlag (old : BitVec 13) (w : Word) (f : Flag) : Bool :=
  match f with
  | .usr => w.getMsbD 5 || hasFlag old .usr
  | .uio => w.getMsbD 6 && !(hasFlag old .usr && !hasFlag old .uio)
  | .pub => w.getMsbD 7 || hasFlag old .pub
  | f => w.getMsbD (flagBit f)

/-- `new` is FLAGS after `RestoreFlags(w)` from `old` (R28). -/
def Restored (old new : BitVec 13) (w : Word) : Prop := ∀ f, hasFlag new f = restoredFlag old w f

/-- The flags that negating a word sets (R151). -/
def negationFlags (a : Word) : BitVec 13 :=
  if a = 0 then flagMask [.cry0, .cry1]
  else if a = 0o400000000000 then flagMask [.aov, .tr1, .cry1]
  else 0

/-- The flags that negating a double word of value `v` sets (R140). -/
def doubleNegationFlags (v : Int) : BitVec 13 :=
  if v = 0 then flagMask [.cry0, .cry1]
  else if v = -(2 ^ 70) then flagMask [.aov, .tr1, .cry1]
  else 0

/-- The value of the negation of a double word of value `v`, which wraps for the most negative one (R140). -/
def doubleNegation (v : Int) : Int := if v = -(2 ^ 70) then v else -v

/-- The flags that adding one sets (R290). -/
def incrementFlags (a : Word) : BitVec 13 :=
  if a = 0o377777777777 then flagMask [.aov, .tr1, .cry1]
  else if a = 0o777777777777 then flagMask [.cry0, .cry1]
  else 0

/-- The flags that subtracting one sets (R290). -/
def decrementFlags (a : Word) : BitVec 13 :=
  if a = 0o400000000000 then flagMask [.aov, .tr1, .cry0]
  else if a = 0 then 0
  else flagMask [.cry0, .cry1]

/-- FLAGS after a computation that sets a mask of flags when a condition holds (R26). -/
def flagsIf (s : State) (c : Prop) [Decidable c] (k : List Flag) : BitVec 13 :=
  if c then s.flags ||| flagMask k else s.flags

/-- The result bit of boolean function `fn` for the operand bits a and b, from the truth table of R200. -/
def truthBit (fn : BitVec 4) (a b : Bool) : Bool := fn.getLsbD ((if a then 0 else 1) + (if b then 0 else 2))

/-- The controller after a dismiss: no current level, its held bit cleared, the rest as it was (R653). -/
def Dismissed (p q : InterruptController) : Prop :=
  q.current = none ∧ q.turnedOn = p.turnedOn ∧ q.enabled = p.enabled ∧ q.request = p.request
    ∧ ∀ l : Level, q.held.getLsbD (7 - l.toNat) = (p.held.getLsbD (7 - l.toNat) && decide (p.current ≠ some l))

/-- A candidate of the interrupt scan (R650). -/
def ScanCandidate (s : State) (l : Level) : Prop :=
  s.pi.enabled.getLsbD (7 - l.toNat) = true
    ∧ (∀ c, s.pi.current = some c → l.toNat < c.toNat)
    ∧ (s.pi.request.getLsbD (7 - l.toNat) = true ∨ ∃ d ∈ s.devices, d.pending = true ∧ d.level.toNat = l.toNat)

/-- Size and position of a Global-1 code from 37 to 62: sizes 6, 8, 7, 9, 18 in runs that begin at position 36 and
fall by the size (R550). -/
def global1Field (code : Nat) : Nat × Nat :=
  if code < 44 then (6, 36 - 6 * (code - 37))
  else if code < 49 then (8, 36 - 8 * (code - 44))
  else if code < 55 then (7, 36 - 7 * (code - 49))
  else if code < 60 then (9, 36 - 9 * (code - 55))
  else (18, 36 - 18 * (code - 60))

/-- The first Global-1 code of a size (R553). -/
def firstCode (size : Nat) : Nat :=
  if size = 6 then 37 else if size = 8 then 44 else if size = 7 then 49 else if size = 9 then 55 else 60

/-- Position and address displacement of a pointer of the given size after `n` increments (R553). -/
def incremented (size : Nat) : Nat → Nat × Int → Nat × Int
  | 0, x => x
  | n + 1, x => incremented size n (if size ≤ x.1 then (x.1 - size, x.2) else (36 - size, x.2 + 1))

/-- The word of each instruction has the opcode written beside it in bits 0-8 (R80). -/
def Opcodes (l : List (Instr × BitVec 9)) : Prop := ∀ p ∈ l, opField (encode p.1) = p.2

/-- The word of each instruction has the opcode and the accumulator or function field written beside it in bits 0-12
(R80, R91). -/
def Heads (l : List (Instr × BitVec 13)) : Prop := ∀ p ∈ l, headField (encode p.1) = p.2

-- The families, each row naming the constructors that differ in one field of the opcode

/-- Four instructions that differ in the mode (R88): none, I, M, and S or B. -/
structure Modes where
  basic : AcNum → AddrPart → Instr
  immediate : AcNum → AddrPart → Instr
  memory : AcNum → AddrPart → Instr
  both : AcNum → AddrPart → Instr

/-- The mode's instruction by the low two bits of the opcode (R88). -/
def Modes.at (r : Modes) (mode : BitVec 2) : AcNum → AddrPart → Instr :=
  match mode with
  | 0 => r.basic
  | 1 => r.immediate
  | 2 => r.memory
  | 3 => r.both

/-- The boolean family (R200): function number and the four modes. -/
noncomputable def booleanRows : List (BitVec 4 × Modes) :=
  [(0, ⟨.setz, .setzi, .setzm, .setzb⟩),
   (1, ⟨.and, .andi, .andm, .andb⟩),
   (2, ⟨.andca, .andcai, .andcam, .andcab⟩),
   (3, ⟨.setm, .setmi, .setmm, .setmb⟩),
   (4, ⟨.andcm, .andcmi, .andcmm, .andcmb⟩),
   (5, ⟨.seta, .setai, .setam, .setab⟩),
   (6, ⟨.xor, .xori, .xorm, .xorb⟩),
   (7, ⟨.ior, .iori, .iorm, .iorb⟩),
   (8, ⟨.andcb, .andcbi, .andcbm, .andcbb⟩),
   (9, ⟨.eqv, .eqvi, .eqvm, .eqvb⟩),
   (10, ⟨.setca, .setcai, .setcam, .setcab⟩),
   (11, ⟨.orca, .orcai, .orcam, .orcab⟩),
   (12, ⟨.setcm, .setcmi, .setcmm, .setcmb⟩),
   (13, ⟨.orcm, .orcmi, .orcmm, .orcmb⟩),
   (14, ⟨.orcb, .orcbi, .orcbm, .orcbb⟩),
   (15, ⟨.seto, .setoi, .setom, .setob⟩)]

/-- A row of the half-word family (R370). -/
structure HalfRow where
  destRight : Bool
  cross : Bool
  fill : Fill
  modes : Modes

/-- The field of the fill in the opcode (R370). -/
def fillCode : Fill → BitVec 2
  | .asIs => 0
  | .zeros => 1
  | .ones => 2
  | .signExtend => 3

/-- The half-word family (R370). -/
noncomputable def halfRows : List HalfRow :=
  [⟨false, false, .asIs, ⟨.hll, .hlli, .hllm, .hlls⟩⟩,
   ⟨false, false, .zeros, ⟨.hllz, .hllzi, .hllzm, .hllzs⟩⟩,
   ⟨false, false, .ones, ⟨.hllo, .hlloi, .hllom, .hllos⟩⟩,
   ⟨false, false, .signExtend, ⟨.hlle, .hllei, .hllem, .hlles⟩⟩,
   ⟨false, true, .asIs, ⟨.hrl, .hrli, .hrlm, .hrls⟩⟩,
   ⟨false, true, .zeros, ⟨.hrlz, .hrlzi, .hrlzm, .hrlzs⟩⟩,
   ⟨false, true, .ones, ⟨.hrlo, .hrloi, .hrlom, .hrlos⟩⟩,
   ⟨false, true, .signExtend, ⟨.hrle, .hrlei, .hrlem, .hrles⟩⟩,
   ⟨true, false, .asIs, ⟨.hrr, .hrri, .hrrm, .hrrs⟩⟩,
   ⟨true, false, .zeros, ⟨.hrrz, .hrrzi, .hrrzm, .hrrzs⟩⟩,
   ⟨true, false, .ones, ⟨.hrro, .hrroi, .hrrom, .hrros⟩⟩,
   ⟨true, false, .signExtend, ⟨.hrre, .hrrei, .hrrem, .hrres⟩⟩,
   ⟨true, true, .asIs, ⟨.hlr, .hlri, .hlrm, .hlrs⟩⟩,
   ⟨true, true, .zeros, ⟨.hlrz, .hlrzi, .hlrzm, .hlrzs⟩⟩,
   ⟨true, true, .ones, ⟨.hlro, .hlroi, .hlrom, .hlros⟩⟩,
   ⟨true, true, .signExtend, ⟨.hlre, .hlrei, .hlrem, .hlres⟩⟩]

/-- A row of the logical test family (R440): one operation and one condition in the four alignments. -/
structure TestRow where
  modify : Modify
  cond : TestCond
  right : AcNum → AddrPart → Instr
  left : AcNum → AddrPart → Instr
  direct : AcNum → AddrPart → Instr
  swap : AcNum → AddrPart → Instr

/-- The field of the mask operation in the opcode (R440). -/
def modifyCode : Modify → BitVec 2
  | .none => 0
  | .zero => 1
  | .complement => 2
  | .set => 3

/-- The field of the skip condition in the opcode (R440). -/
def testCode : TestCond → BitVec 2
  | .never => 0
  | .e => 1
  | .a => 2
  | .n => 3

/-- Whether some masked bit of a word is 1. -/
def someMasked (a mask : Word) : Bool := (List.range 36).any (fun k => mask.getLsbD k && a.getLsbD k)

/-- The skip decision on the masked bits of the accumulator as it was (R440). -/
def testSkips (c : TestCond) (a mask : Word) : Bool :=
  match c with
  | .never => false
  | .e => !someMasked a mask
  | .a => true
  | .n => someMasked a mask

/-- The logical test family (R440). -/
noncomputable def testRows : List TestRow :=
  [⟨.none, .never, .trn, .tln, .tdn, .tsn⟩,
   ⟨.none, .e, .trne, .tlne, .tdne, .tsne⟩,
   ⟨.none, .a, .trna, .tlna, .tdna, .tsna⟩,
   ⟨.none, .n, .trnn, .tlnn, .tdnn, .tsnn⟩,
   ⟨.zero, .never, .trz, .tlz, .tdz, .tsz⟩,
   ⟨.zero, .e, .trze, .tlze, .tdze, .tsze⟩,
   ⟨.zero, .a, .trza, .tlza, .tdza, .tsza⟩,
   ⟨.zero, .n, .trzn, .tlzn, .tdzn, .tszn⟩,
   ⟨.complement, .never, .trc, .tlc, .tdc, .tsc⟩,
   ⟨.complement, .e, .trce, .tlce, .tdce, .tsce⟩,
   ⟨.complement, .a, .trca, .tlca, .tdca, .tsca⟩,
   ⟨.complement, .n, .trcn, .tlcn, .tdcn, .tscn⟩,
   ⟨.set, .never, .tro, .tlo, .tdo, .tso⟩,
   ⟨.set, .e, .troe, .tloe, .tdoe, .tsoe⟩,
   ⟨.set, .a, .troa, .tloa, .tdoa, .tsoa⟩,
   ⟨.set, .n, .tron, .tlon, .tdon, .tson⟩]

/-- A row of the eight-way families (R95): one condition on a signed number. -/
structure CondRow where
  code : BitVec 3
  holds : Int → Bool
  cai : AcNum → AddrPart → Instr
  cam : AcNum → AddrPart → Instr
  jump : AcNum → AddrPart → Instr
  skip : AcNum → AddrPart → Instr
  aoj : AcNum → AddrPart → Instr
  aos : AcNum → AddrPart → Instr
  soj : AcNum → AddrPart → Instr
  sos : AcNum → AddrPart → Instr

/-- The eight conditions (R95). -/
noncomputable def condRows : List CondRow :=
  [⟨0, fun _ => false, .cai, .cam, .jump, .skip, .aoj, .aos, .soj, .sos⟩,
   ⟨1, fun v => v < 0, .cail, .caml, .jumpl, .skipl, .aojl, .aosl, .sojl, .sosl⟩,
   ⟨2, fun v => v = 0, .caie, .came, .jumpe, .skipe, .aoje, .aose, .soje, .sose⟩,
   ⟨3, fun v => v ≤ 0, .caile, .camle, .jumple, .skiple, .aojle, .aosle, .sojle, .sosle⟩,
   ⟨4, fun _ => true, .caia, .cama, .jumpa, .skipa, .aoja, .aosa, .soja, .sosa⟩,
   ⟨5, fun v => 0 ≤ v, .caige, .camge, .jumpge, .skipge, .aojge, .aosge, .sojge, .sosge⟩,
   ⟨6, fun v => v ≠ 0, .cain, .camn, .jumpn, .skipn, .aojn, .aosn, .sojn, .sosn⟩,
   ⟨7, fun v => 0 < v, .caig, .camg, .jumpg, .skipg, .aojg, .aosg, .sojg, .sosg⟩]

/-- The monitor-call opcodes (R581). -/
noncomputable def monitorCalls : List (BitVec 9 × (AcNum → AddrPart → Instr)) :=
  [(0o000, .muuo), (0o040, .muuo040), (0o041, .muuo041), (0o042, .muuo042), (0o043, .muuo043),
   (0o044, .muuo044), (0o045, .muuo045), (0o046, .muuo046), (0o047, .muuo047), (0o050, .muuo050),
   (0o051, .muuo051), (0o052, .muuo052), (0o053, .muuo053), (0o054, .muuo054), (0o055, .muuo055),
   (0o056, .muuo056), (0o057, .muuo057), (0o060, .muuo060), (0o061, .muuo061), (0o062, .muuo062),
   (0o063, .muuo063), (0o064, .muuo064), (0o065, .muuo065), (0o066, .muuo066), (0o067, .muuo067),
   (0o070, .muuo070), (0o071, .muuo071), (0o072, .muuo072), (0o073, .muuo073), (0o074, .muuo074),
   (0o075, .muuo075), (0o076, .muuo076), (0o077, .muuo077)]

/-- The local-call opcodes (R580). -/
noncomputable def localCalls : List (BitVec 9 × (AcNum → AddrPart → Instr)) :=
  [(0o001, .luuo001), (0o002, .luuo002), (0o003, .luuo003), (0o004, .luuo004), (0o005, .luuo005),
   (0o006, .luuo006), (0o007, .luuo007), (0o010, .luuo010), (0o011, .luuo011), (0o012, .luuo012),
   (0o013, .luuo013), (0o014, .luuo014), (0o015, .luuo015), (0o016, .luuo016), (0o017, .luuo017),
   (0o020, .luuo020), (0o021, .luuo021), (0o022, .luuo022), (0o023, .luuo023), (0o024, .luuo024),
   (0o025, .luuo025), (0o026, .luuo026), (0o027, .luuo027), (0o030, .luuo030), (0o031, .luuo031),
   (0o032, .luuo032), (0o033, .luuo033), (0o034, .luuo034), (0o035, .luuo035), (0o036, .luuo036),
   (0o037, .luuo037)]

/-- The opcodes with no handler (R582). -/
noncomputable def unassignedOpcodes : List (BitVec 9 × (AcNum → AddrPart → Instr)) :=
  [(0o100, .unassigned100), (0o101, .unassigned101), (0o102, .unassigned102), (0o103, .unassigned103),
   (0o104, .unassigned104), (0o106, .unassigned106), (0o107, .unassigned107), (0o110, .unassigned110),
   (0o111, .unassigned111), (0o112, .unassigned112), (0o113, .unassigned113), (0o122, .unassigned122),
   (0o123, .unassigned123), (0o126, .unassigned126), (0o127, .unassigned127), (0o130, .unassigned130),
   (0o131, .unassigned131), (0o132, .unassigned132), (0o140, .unassigned140), (0o141, .unassigned141),
   (0o142, .unassigned142), (0o143, .unassigned143), (0o144, .unassigned144), (0o145, .unassigned145),
   (0o146, .unassigned146), (0o147, .unassigned147), (0o150, .unassigned150), (0o151, .unassigned151),
   (0o152, .unassigned152), (0o153, .unassigned153), (0o154, .unassigned154), (0o155, .unassigned155),
   (0o156, .unassigned156), (0o157, .unassigned157), (0o160, .unassigned160), (0o161, .unassigned161),
   (0o162, .unassigned162), (0o163, .unassigned163), (0o164, .unassigned164), (0o165, .unassigned165),
   (0o166, .unassigned166), (0o167, .unassigned167), (0o170, .unassigned170), (0o171, .unassigned171),
   (0o172, .unassigned172), (0o173, .unassigned173), (0o174, .unassigned174), (0o175, .unassigned175),
   (0o176, .unassigned176), (0o177, .unassigned177), (0o247, .unassigned247), (0o257, .unassigned257)]

/-- A row of the I/O format (R590, R591): the operation, its code, its instruction and the codes of the capabilities
it needs. -/
structure IoRow where
  op : IoOp
  code : BitVec 3
  instr : DevId → AddrPart → Instr
  needs : List Nat

/-- The eight I/O instructions (R590, R591). -/
noncomputable def ioRows : List IoRow :=
  [⟨.blki, 0, .blki, [0, 1]⟩, ⟨.datai, 1, .datai, [1]⟩, ⟨.blko, 2, .blko, [2, 3]⟩, ⟨.datao, 3, .datao, [3]⟩,
   ⟨.cono, 4, .cono, [4]⟩, ⟨.coni, 5, .coni, [5]⟩, ⟨.consz, 6, .consz, [6]⟩, ⟨.conso, 7, .conso, [7]⟩]

/-- The JRST function codes with no handler (R518). -/
noncomputable def unassignedFunctions : List (AcNum × (AddrPart → Instr)) :=
  [(0o3, .jrstFn3), (0o5, .jrstFn5), (0o6, .jrstFn6), (0o7, .jrstFn7), (0o11, .jrstFn11),
   (0o13, .jrstFn13), (0o14, .jrstFn14), (0o15, .jrstFn15), (0o16, .jrstFn16), (0o17, .jrstFn17)]

end Sys2Proof
end

