-- ==== Sys2Proof/Certificates/Slice0/Obligations.lean ====
section
/-!
DEFINITION. The statements for the provers, in the order of OBLIGATIONS.json. Throughout, E is `e` with
`s.effective m = .ok e`, `C(E)` is `s.peek (s.sec e)` and `nextPC` is `s.returnPC`.
-/

open Sys2Proof Sys2Proof.Machine

-- Encoding

/-- Decoding the word of a well-formed instruction gives it back, also as a number of any stated width (R80 to R82,
R90, R91, R590). -/
def Obligations.DecodeInvertsEncode : Prop :=
  ∀ i : Instr, i.wellFormed = true →
    decode (encode i) = i ∧ ∀ nbits, decodeTableWord nbits (encode i).toNat = some i

/-- Every word is the word of the instruction it decodes to: the decoder drops no bit and no encoding is reserved
(R90). -/
def Obligations.EncodeInvertsDecode : Prop :=
  ∀ w : Word, (decode w).wellFormed = true ∧ encode (decode w) = w

/-- Words of the rules' own examples decode to their instructions. -/
def Obligations.ExampleWordsDecode : Prop :=
  decode 0o200240002000 = .move 5 ⟨false, 0, 0o2000⟩ ∧
  decode 0o270240002000 = .add 5 ⟨false, 0, 0o2000⟩ ∧
  decode 0o254000002000 = .jrst ⟨false, 0, 0o2000⟩ ∧
  decode 0o254120003000 = .jrstf ⟨true, 0, 0o3000⟩ ∧
  decode 0o254520003000 = .jen ⟨true, 0, 0o3000⟩ ∧
  decode 0o240240000003 = .ash 5 ⟨false, 0, 3⟩ ∧
  decode 0o600240000300 = .trn 5 ⟨false, 0, 0o300⟩ ∧
  decode 0o133240002000 = .adjbp 5 ⟨false, 0, 0o2000⟩ ∧
  decode 0o133000002000 = .ibp ⟨false, 0, 0o2000⟩ ∧
  decode 0o706040002000 = .datai 0o14 ⟨false, 0, 0o2000⟩ ∧
  decode 0o700600002377 = .cono 1 ⟨false, 0, 0o2377⟩ ∧
  decode 0o040140001234 = .muuo040 3 ⟨false, 0, 0o1234⟩

-- The cycle

/-- A cycle that nothing diverts runs the instruction decoded from the word at PC, with no exception cycle in progress;
the step then counts it and ends the cycle. -/
def Obligations.StepRunsDecodedInstruction : Prop :=
  ∀ (s : State) (i : Instr), s.running = true →
    ¬ ((s.flag .tr1 = true ∨ s.flag .tr2 = true) ∧ s.pagingEn = true) → s.piScan = none →
    s.present s.pc = true → decode (s.peek s.pc) = i →
    (∀ t, exec i { s with exceptionCycle := none, redispatch := none } = .next t → t.redispatch = none →
      step s = .next { t with icount := t.icount + 1, exceptionCycle := none }) ∧
    (∀ f, exec i { s with exceptionCycle := none, redispatch := none } = .fault f → step s = .fault f)

/-- In any running machine the step fetches at the boundary's address and follows the re-dispatches of XCT and LUUO
inside the same cycle: up to `MAX_XCT` of them, and one more is the fault XctLoop. -/
def Obligations.StepFollowsRedispatches : Prop :=
  ∀ (s b t : State) (a : VAddr) (v : Word) (n : Nat), s.running = true → s.boundary = (a, b) → b.present a = true →
    Redispatches b (b.peek a) n t v → n ≤ s.params.maxXct →
    (∀ u, exec (decode v) t = .next u → u.redispatch = none →
      step s = .next { u with icount := u.icount + 1, exceptionCycle := none }) ∧
    (∀ f, exec (decode v) t = .fault f → step s = .fault f) ∧
    (∀ u w, exec (decode v) t = .next u → u.redispatch = some w → n = s.params.maxXct → step s = .fault .xctLoop)

/-- With a trap flag set and paging enabled the cycle becomes a trap cycle: it fetches from `base + 0420 + n`, the two
trap flags are cleared, `exceptionPC` and `nextPC` are PC, nothing else changes, and no interrupt is considered. With
paging not enabled no trap is taken and FLAGS stays as it is. That the vector's sum wraps at 30 bits, for a base near
2^30, is the model's choice (log 14). -/
def Obligations.TrapDivertsFetch : Prop :=
  (∀ s : State, (s.flag .tr1 = true ∨ s.flag .tr2 = true) → s.pagingEn = true →
    s.boundary =
      ((if s.flag .usr then s.params.uptBase else s.params.eptBase) + 0o420
          + BitVec.ofNat 30 ((s.flag .tr1).toNat + 2 * (s.flag .tr2).toNat),
        { s with
          flags := s.flags &&& ~~~flagMask [.tr1, .tr2]
          exceptionCycle := some ⟨.trap, s.pc⟩
          redispatch := none }) ∧
    s.boundary.2.returnPC = s.pc) ∧
  ∀ s : State, s.pagingEn = false → s.boundary.2.flags = s.flags ∧ inCycle s.boundary.2 .trap = false

/-- With no trap due, a level that the scan gives is granted: it is held and current, the cycle fetches from
`EPT_BASE + 040 + 2L` as an interrupt cycle, and the requesting device of the lowest id, if there is one, is asked for
its function word. With no trap due and no level, the cycle fetches at PC. The registry premise is the invariant's. The
model's own: that the vector's sum wraps at 30 bits (log 14), that asking leaves the device's entry as it was (log 10),
and the history (log 11). -/
def Obligations.InterruptDivertsFetch : Prop :=
  ∀ s : State, registryFrom 0 s.devices = true →
    ¬ ((s.flag .tr1 = true ∨ s.flag .tr2 = true) ∧ s.pagingEn = true) →
    (s.piScan = none → s.boundary = (s.pc, { s with exceptionCycle := none, redispatch := none })) ∧
    ∀ l, s.piScan = some l →
      ∃ log, s.boundary =
          (s.params.eptBase + 0o40 + BitVec.ofNat 30 (2 * l.toNat),
            { s with
              pi := { s.pi with held := s.pi.held ||| BitVec.twoPow 7 (7 - l.toNat), current := some l }
              ioLog := log
              exceptionCycle := some ⟨.interrupt, s.pc⟩
              redispatch := none }) ∧
        ((∀ d ∈ s.devices, ¬ (d.pending = true ∧ d.level.toNat = l.toNat)) → log = s.ioLog) ∧
        (∀ d ∈ s.devices, d.pending = true → d.level.toNat = l.toNat →
          (∀ d' ∈ s.devices, d'.pending = true → d'.level.toNat = l.toNat → d.id.toNat ≤ d'.id.toNat) →
          log = .getIntFuncWord d.id :: s.ioLog)

/-- The scan gives the lowest candidate level of a controller that is on: enabled, requested by program or by a
pending device of that level, and more urgent than the level in service. -/
def Obligations.ScanSelectsLowestCandidate : Prop :=
  ∀ s : State,
    (∀ l, s.piScan = some l ↔
      s.pi.turnedOn = true ∧ ScanCandidate s l ∧ ∀ l', ScanCandidate s l' → l.toNat ≤ l'.toNat) ∧
    (s.piScan = none ↔ s.pi.turnedOn = false ∨ ∀ l, ¬ ScanCandidate s l)

/-- `nextPC`: the address after PC inside its section, or in an exception cycle the interrupted PC. -/
def Obligations.ReturnAddressOfCycle : Prop :=
  ∀ s : State,
    (s.exceptionCycle = none →
      sectionOf s.returnPC = sectionOf s.pc ∧ offsetOf s.returnPC = offsetOf s.pc + 1) ∧
    (∀ k p, s.exceptionCycle = some ⟨k, p⟩ → s.returnPC = p)

/-- Every cycle that completes adds one to ICOUNT and leaves nothing that lives for one cycle only; while RUNNING is 0 no
cycle is taken and every piece of state is kept. -/
def Obligations.CompletedCycleIsCounted : Prop :=
  ∀ s : State,
    (s.running = false → step s = .next s) ∧
    ∀ t, s.running = true → step s = .next t →
      t.icount = s.icount + 1 ∧ t.exceptionCycle = none ∧ t.redispatch = none

-- Invariants and rules over every instruction

/-- Every step keeps the invariant. -/
def Obligations.StepKeepsInvariant : Prop := ∀ s t : State, Inv s → step s = .next t → Inv t

/-- The machine after reset meets the invariant. -/
def Obligations.ResetMeetsInvariant : Prop := Inv State.reset

/-- The values that R37 gives for reset. -/
def Obligations.ResetValues : Prop :=
  State.reset.acblk = 0 ∧ State.reset.flags = 0 ∧ State.reset.pagingEn = false ∧ State.reset.running = false ∧
  State.reset.pi.turnedOn = false ∧ State.reset.pi.enabled = 0 ∧ State.reset.pi.held = 0 ∧
  State.reset.pi.request = 0 ∧ State.reset.pi.current = none ∧
  (∀ d ∈ State.reset.devices, d.pending = false ∧ d.level = 0) ∧ State.reset.icount = 0 ∧
  State.reset.exceptionCycle = none ∧ State.reset.redispatch = none

/-- The only ways an instruction changes the mode flags USR, PUB and UIO: a flag restore (JRSTF, JEN), a monitor call,
and PUSHJ, JSR or JSP in an interrupt cycle, each in the directions R661 gives it. That a monitor call's process-table
addresses wrap at 30 bits is the model's choice (log 14). -/
def Obligations.ModeChangesOnlyByTheseEvents : Prop :=
  ∀ (i : Instr) (s t : State), exec i s = .next t →
    (∃ e, TakesMuuo i s i.head e) ∨
    ((∃ m, i = .jrstf m ∨ i = .jen m) ∧
      (s.flag .usr = true → t.flag .usr = true) ∧ (s.flag .pub = true → t.flag .pub = true) ∧
      (s.flag .usr = true → s.flag .uio = false → t.flag .uio = false)) ∨
    ((∃ ac m, i = .pushj ac m ∨ i = .jsr ac m ∨ i = .jsp ac m) ∧ inCycle s .interrupt = true ∧
      t.flag .usr = false ∧ t.flag .pub = false ∧ t.flag .uio = s.flag .uio) ∨
    (t.flag .usr = s.flag .usr ∧ t.flag .pub = s.flag .pub ∧ t.flag .uio = s.flag .uio)

/-- In user mode without UIO no instruction changes the interrupt controller, the device registry, the device
interface or RUNNING. -/
def Obligations.UserModeCannotReachIo : Prop :=
  ∀ (i : Instr) (s t : State), s.ioLegal = false → exec i s = .next t →
    t.pi = s.pi ∧ t.devices = s.devices ∧ t.ioLog = s.ioLog ∧ t.running = s.running

/-- What no step writes: ACBLK, PAGING_EN, the parameters, the accumulators of the inactive banks and the section of
PC. -/
def Obligations.StepNeverWrites : Prop :=
  ∀ s t : State, step s = .next t →
    t.acblk = s.acblk ∧ t.pagingEn = s.pagingEn ∧ t.params = s.params ∧ sectionOf t.pc = sectionOf s.pc ∧
    ∀ b r, b ≠ s.acblk → bankWord t b r = bankWord s b r

/-- Only HALT changes RUNNING, and only where it is legal. -/
def Obligations.OnlyHaltChangesRunning : Prop :=
  ∀ (i : Instr) (s t : State), exec i s = .next t → t.running ≠ s.running →
    t.running = false ∧ s.ioLegal = true ∧ ∃ m, i = .halt m

/-- The device interface. A transaction adds itself to the history and changes of the registry only the device's own
`pending` and `level`. ClearIO keeps PI.enabled and PI.on, clears the rest of the controller and every device's pending
flag, and changes nothing but devices' own levels and the history besides. `pending` after a transaction and `level`
after either are free values (log 9), the history is the model's own (log 11), and that it has the devices cleared in
the order of the registry is the model's choice (log 21). -/
def Obligations.DeviceInterfaceKeepsTheRest : Prop :=
  (∀ (s : State) (dev : DevId) (ev : IoEvent),
    (s.deviceCall dev ev).ioLog = ev :: s.ioLog ∧
    (s.deviceCall dev ev).devices.map (fun d => (d.id, d.caps)) = s.devices.map (fun d => (d.id, d.caps)) ∧
    (∀ d, d.id ≠ dev → (d ∈ (s.deviceCall dev ev).devices ↔ d ∈ s.devices)) ∧
    s.deviceCall dev ev =
      { s with ioLog := (s.deviceCall dev ev).ioLog, devices := (s.deviceCall dev ev).devices }) ∧
  ∀ s : State,
    s.clearIO.pi = { s.pi with held := 0, request := 0, current := none } ∧
    (∀ d ∈ s.clearIO.devices, d.pending = false) ∧
    s.clearIO.devices.map (fun d => (d.id, d.caps)) = s.devices.map (fun d => (d.id, d.caps)) ∧
    s.clearIO.ioLog = (s.devices.map (fun d => IoEvent.clearIO d.id)).reverse ++ s.ioLog ∧
    s.clearIO = { s with pi := s.clearIO.pi, devices := s.clearIO.devices, ioLog := s.clearIO.ioLog }

-- Addresses and storage

/-- The resolver: indexing adds the right half of the index register mod 2^18, an indirect word's own I, X, Y are
followed, and the limit is `MAX_INDIRECT` words, one more being the fault AddressLoop. -/
def Obligations.ResolverFollowsChain : Prop :=
  (∀ (s : State) (ap : AddrPart) (last : Word), ap.index = 0 → s.indexed ap last = (ap.disp, last)) ∧
  (∀ (s : State) (ap : AddrPart) (last : Word), ap.index ≠ 0 →
    s.indexed ap last = (ap.disp + rh (s.ac ap.index), s.ac ap.index)) ∧
  (∀ (s : State) (ap : AddrPart) (own : Word) (r : Offset × Word),
    s.resolve ap own = .ok r ↔ ∃ n ≤ s.params.maxIndirect, Resolves s ap own n r) ∧
  (∀ (s : State) (ap : AddrPart) (own : Word),
    s.resolve ap own = .error .addressLoop ↔ Indirects s ap own s.params.maxIndirect)

/-- A word written is read back, every other address reads as before, addresses below 16 are the active bank's
accumulators, and nothing but storage changes. -/
def Obligations.WrittenWordReadsBack : Prop :=
  ∀ (s : State) (a : VAddr) (v : Word), s.present a = true →
    ∃ t, s.writeMem a v = .ok t ∧ Effect s t [(a, v)] s.flags s.pc ∧
      (∀ b, s.present b = true → t.readMem b = .ok (if b = a then v else s.peek b)) ∧
      (∀ r : AcNum, a = acAddr r → t = s.setAc r v ∧ t.mem = s.mem) ∧
      (16 ≤ a.toNat → t.acs = s.acs)

/-- An access at an address of 16 or more that is not below MEMWORDS is the fault NonexistentMemory: reading,
writing, fetching, and so the instruction that needs it. -/
def Obligations.NonexistentMemoryFaults : Prop :=
  ∀ (s : State) (a : VAddr), 16 ≤ a.toNat → s.params.memWords ≤ a.toNat →
    s.readMem a = .error (.nonexistentMemory a) ∧
    (∀ v, s.writeMem a v = .error (.nonexistentMemory a)) ∧
    (∀ (ac : AcNum) (m : AddrPart) (e : Offset), s.effective m = .ok e → s.sec e = a →
      exec (.move ac m) s = .fault (.nonexistentMemory a) ∧ exec (.movem ac m) s = .fault (.nonexistentMemory a)) ∧
    (∀ b, s.running = true → s.boundary = (a, b) → step s = .fault (.nonexistentMemory a))

-- The arithmetic unit

/-- `add36`: the wrapped sum, with the flags of the two carries, which are those of the signed table. -/
def Obligations.AdditionSetsFlags : Prop :=
  ∀ a b : Word,
    (add36 a b).1 = BitVec.ofInt 36 (a.toInt + b.toInt) ∧
    (∀ f, hasFlag (add36 a b).2 f = (match f with
      | .cry0 => decide (2 ^ 36 ≤ a.toNat + b.toNat)
      | .cry1 => decide (2 ^ 35 ≤ a.toNat % 2 ^ 35 + b.toNat % 2 ^ 35)
      | .aov => decide (2 ^ 36 ≤ a.toNat + b.toNat) != decide (2 ^ 35 ≤ a.toNat % 2 ^ 35 + b.toNat % 2 ^ 35)
      | .tr1 => decide (2 ^ 36 ≤ a.toNat + b.toNat) != decide (2 ^ 35 ≤ a.toNat % 2 ^ 35 + b.toNat % 2 ^ 35)
      | _ => false)) ∧
    (add36 a b).2 =
      if a.toInt + b.toInt < -(2 ^ 35) then flagMask [.tr1, .aov, .cry0]
      else if 2 ^ 35 ≤ a.toInt + b.toInt then flagMask [.tr1, .aov, .cry1]
      else if a.toInt < 0 ∧ b.toInt < 0 then flagMask [.cry0, .cry1]
      else if ((a.toInt < 0 ∧ 0 ≤ b.toInt) ∨ (0 ≤ a.toInt ∧ b.toInt < 0)) ∧ 0 ≤ a.toInt + b.toInt then
        flagMask [.cry0, .cry1]
      else 0

/-- `sub36` and `neg36`: the wrapped difference, with the flags of R151 and its consequences for negation; subtracting what
was added gives the first operand back in every case, and negating twice gives the operand back. -/
def Obligations.SubtractionSetsFlags : Prop :=
  (∀ a b : Word,
    (sub36 a b).1 = BitVec.ofInt 36 (a.toInt - b.toInt) ∧
    (sub36 a b).2 =
      if a.toInt - b.toInt < -(2 ^ 35) then flagMask [.tr1, .aov, .cry0]
      else if 2 ^ 35 ≤ a.toInt - b.toInt then flagMask [.tr1, .aov, .cry1]
      else if b.toNat ≤ a.toNat then flagMask [.cry0, .cry1]
      else 0) ∧
  (∀ a : Word, neg36 a = (-a, negationFlags a)) ∧
  neg36 0o400000000000 = (0o400000000000, flagMask [.aov, .tr1, .cry1]) ∧
  (∀ a b : Word, (sub36 (add36 a b).1 b).1 = a) ∧ (∀ a : Word, (neg36 (neg36 a).1).1 = a)

/-- The 71-bit sums of the double-word instructions: the value wraps to 71 bits, CRY0 is the carry out of the sign
position, and AOV with TR1 is set exactly when the true result is outside [-2^70, 2^70); negation is subtraction from 0. -/
def Obligations.DoubleSumsSetFlags : Prop :=
  ∀ a b : BitVec 71,
    ((add71 a b).1 = a + b ∧
      hasFlag (add71 a b).2 .cry0 = decide (2 ^ 71 ≤ a.toNat + b.toNat) ∧
      hasFlag (add71 a b).2 .cry1 = decide (2 ^ 70 ≤ a.toNat % 2 ^ 70 + b.toNat % 2 ^ 70) ∧
      (∀ f ∈ [Flag.aov, Flag.tr1], hasFlag (add71 a b).2 f
        = decide (a.toInt + b.toInt < -(2 ^ 70) ∨ 2 ^ 70 ≤ a.toInt + b.toInt)) ∧
      ∀ f ∈ [Flag.fov, .fpd, .usr, .uio, .pub, .afi, .tr2, .fxu, .ndv], hasFlag (add71 a b).2 f = false) ∧
    ((sub71 a b).1 = a - b ∧
      hasFlag (sub71 a b).2 .cry0 = decide (b.toNat ≤ a.toNat) ∧
      hasFlag (sub71 a b).2 .cry1 = decide (b.toNat % 2 ^ 70 ≤ a.toNat % 2 ^ 70) ∧
      (∀ f ∈ [Flag.aov, Flag.tr1], hasFlag (sub71 a b).2 f
        = decide (a.toInt - b.toInt < -(2 ^ 70) ∨ 2 ^ 70 ≤ a.toInt - b.toInt)) ∧
      ∀ f ∈ [Flag.fov, .fpd, .usr, .uio, .pub, .afi, .tr2, .fxu, .ndv], hasFlag (sub71 a b).2 f = false) ∧
    neg71 a = (-a, doubleNegationFlags a.toInt)

/-- Double and quadruple words: packing and unpacking are inverse on the values a double or quadruple word holds, bit
0 of every lower word is ignored on input and written as a copy of the sign. -/
def Obligations.PackedWordsRoundTrip : Prop :=
  (∀ v : Int, -(2 ^ 70) ≤ v → v < 2 ^ 70 → unpack72 (pack72 v).1 (pack72 v).2 = v) ∧
  (∀ h l : Word, -(2 ^ 70) ≤ unpack72 h l ∧ unpack72 h l < 2 ^ 70 ∧
    pack72 (unpack72 h l) = (h, BitVec.ofBool h.msb ++ l.extractLsb' 0 35)) ∧
  pack72 (2 ^ 70) = (0o400000000000, 0o400000000000) ∧
  (∀ v : Int, -(2 ^ 140) ≤ v → v < 2 ^ 140 →
    unpack144 (pack144 v).1 (pack144 v).2.1 (pack144 v).2.2.1 (pack144 v).2.2.2 = v) ∧
  (∀ w0 w1 w2 w3 : Word, pack144 (unpack144 w0 w1 w2 w3) =
    (w0, BitVec.ofBool w0.msb ++ w1.extractLsb' 0 35, BitVec.ofBool w0.msb ++ w2.extractLsb' 0 35,
      BitVec.ofBool w0.msb ++ w3.extractLsb' 0 35))

/-- Division: there is no quotient exactly when the divisor is 0 or `|n| ≥ |d| 2^k`; else the quotient truncates
toward zero, fits, and the remainder is smaller than the divisor and has the dividend's sign. -/
def Obligations.DivisionLaw : Prop :=
  ∀ (n d : Int) (k : Nat),
    (divide n d k = none ↔ d = 0 ∨ d.natAbs * 2 ^ k ≤ n.natAbs) ∧
    ∀ q r, divide n d k = some (q, r) →
      q * d + r = n ∧ r.natAbs < d.natAbs ∧ (r = 0 ∨ r.sign = n.sign) ∧ q.natAbs < 2 ^ k ∧
      ∀ q' r', q' * d + r' = n → r'.natAbs < d.natAbs → (r' = 0 ∨ r'.sign = n.sign) → q' = q ∧ r' = r

-- Full-word moves

/-- MOVE, MOVS, MOVN and MOVM, mode basic and I: the word, its halves exchanged, its negation or its magnitude goes to
the accumulator; nothing else changes but the flags of the negation and PC. -/
def Obligations.MovesToAccumulator : Prop :=
  (∀ (ac : AcNum) (m : AddrPart), Opcodes
    [(.move ac m, 0o200), (.movei ac m, 0o201), (.movs ac m, 0o204), (.movsi ac m, 0o205), (.movn ac m, 0o210),
      (.movni ac m, 0o211), (.movm ac m, 0o214), (.movmi ac m, 0o215)]) ∧
  ∀ (s : State) (ac : AcNum) (m : AddrPart) (e : Offset), s.effective m = .ok e →
    (s.present (s.sec e) = true → ∀ v, v = s.peek (s.sec e) →
      Completes (.move ac m) s [(acAddr ac, v)] s.flags s.returnPC ∧
      Completes (.movs ac m) s [(acAddr ac, rh v ++ lh v)] s.flags s.returnPC ∧
      Completes (.movn ac m) s [(acAddr ac, -v)] (s.flags ||| negationFlags v) s.returnPC ∧
      (v.toInt < 0 → Completes (.movm ac m) s [(acAddr ac, -v)] (s.flags ||| negationFlags v) s.returnPC) ∧
      (0 ≤ v.toInt → Completes (.movm ac m) s [(acAddr ac, v)] s.flags s.returnPC)) ∧
    (Completes (.movei ac m) s [(acAddr ac, (0#18) ++ e)] s.flags s.returnPC ∧
      Completes (.movsi ac m) s [(acAddr ac, e ++ (0#18))] s.flags s.returnPC ∧
      Completes (.movni ac m) s [(acAddr ac, -((0#18) ++ e))] (s.flags ||| negationFlags ((0#18) ++ e)) s.returnPC ∧
      Completes (.movmi ac m) s [(acAddr ac, (0#18) ++ e)] s.flags s.returnPC)

/-- MOVE, MOVS, MOVN and MOVM, mode M (the accumulator's word to memory) and S (the memory word back to itself, then to
the accumulator unless it is register 0). -/
def Obligations.MovesToMemory : Prop :=
  (∀ (ac : AcNum) (m : AddrPart), Opcodes
    [(.movem ac m, 0o202), (.moves ac m, 0o203), (.movsm ac m, 0o206), (.movss ac m, 0o207),
      (.movnm ac m, 0o212), (.movns ac m, 0o213), (.movmm ac m, 0o216), (.movms ac m, 0o217)]) ∧
  ∀ (s : State) (ac : AcNum) (m : AddrPart) (e : Offset), s.effective m = .ok e → s.present (s.sec e) = true →
    (∀ v, v = s.ac ac →
      Completes (.movem ac m) s [(s.sec e, v)] s.flags s.returnPC ∧
      Completes (.movsm ac m) s [(s.sec e, rh v ++ lh v)] s.flags s.returnPC ∧
      Completes (.movnm ac m) s [(s.sec e, -v)] (s.flags ||| negationFlags v) s.returnPC ∧
      (v.toInt < 0 → Completes (.movmm ac m) s [(s.sec e, -v)] (s.flags ||| negationFlags v) s.returnPC) ∧
      (0 ≤ v.toInt → Completes (.movmm ac m) s [(s.sec e, v)] s.flags s.returnPC)) ∧
    (∀ v, v = s.peek (s.sec e) →
      Completes (.moves ac m) s ((s.sec e, v) :: whenWritten (ac ≠ 0) (acAddr ac, v)) s.flags s.returnPC ∧
      Completes (.movss ac m) s ((s.sec e, rh v ++ lh v) :: whenWritten (ac ≠ 0) (acAddr ac, rh v ++ lh v)) s.flags
        s.returnPC ∧
      Completes (.movns ac m) s ((s.sec e, -v) :: whenWritten (ac ≠ 0) (acAddr ac, -v)) (s.flags ||| negationFlags v)
        s.returnPC ∧
      (v.toInt < 0 → Completes (.movms ac m) s ((s.sec e, -v) :: whenWritten (ac ≠ 0) (acAddr ac, -v))
        (s.flags ||| negationFlags v) s.returnPC) ∧
      (0 ≤ v.toInt → Completes (.movms ac m) s ((s.sec e, v) :: whenWritten (ac ≠ 0) (acAddr ac, v)) s.flags
        s.returnPC))

/-- EXCH and BLT. EXCH reads both old values, then writes both places. BLT moves the words from the first source
address one at a time, in ascending order, to the first destination address and on up to E, at least one of them; the
accumulator ends one past the last word in both halves. -/
def Obligations.ExchangeAndBlockTransferComplete : Prop :=
  (∀ (ac : AcNum) (m : AddrPart), Opcodes
    [(.exch ac m, 0o250), (.blt ac m, 0o251)]) ∧
  ∀ (s : State) (ac : AcNum) (m : AddrPart) (e : Offset), s.effective m = .ok e →
    (s.present (s.sec e) = true →
      Completes (.exch ac m) s [(s.sec e, s.ac ac), (acAddr ac, s.peek (s.sec e))] s.flags s.returnPC) ∧
    ∀ (src dst : Offset) (n : Nat), src = lh (s.ac ac) → dst = rh (s.ac ac) → n = e.toNat - dst.toNat + 1 →
      (∀ k < n,
        s.present (s.sec (src + BitVec.ofNat 18 k)) = true ∧ s.present (s.sec (dst + BitVec.ofNat 18 k)) = true) →
      Completes (.blt ac m) s
        (blockWrites s.sec n s.peek src dst ++
          [(acAddr ac, (src + BitVec.ofNat 18 n) ++ (dst + BitVec.ofNat 18 n))]) s.flags s.returnPC

/-- The double-word moves: two consecutive words to the accumulator pair or back, unchanged or negated. -/
def Obligations.DoubleMovesCompleteSo : Prop :=
  (∀ (ac : AcNum) (m : AddrPart), Opcodes
    [(.dmove ac m, 0o120), (.dmovn ac m, 0o121), (.dmovem ac m, 0o124), (.dmovnm ac m, 0o125)]) ∧
  ∀ (s : State) (ac : AcNum) (m : AddrPart) (e : Offset), s.effective m = .ok e → s.present (s.sec e) = true →
    s.present (s.sec (e + 1)) = true →
    Completes (.dmove ac m) s [(acAddr ac, s.peek (s.sec e)), (acAddr (ac + 1), s.peek (s.sec (e + 1)))] s.flags
      s.returnPC ∧
    Completes (.dmovem ac m) s [(s.sec e, s.ac ac), (s.sec (e + 1), s.ac (ac + 1))] s.flags s.returnPC ∧
    (∀ v, v = unpack72 (s.peek (s.sec e)) (s.peek (s.sec (e + 1))) →
      Completes (.dmovn ac m) s
        [(acAddr ac, (pack72 (doubleNegation v)).1), (acAddr (ac + 1), (pack72 (doubleNegation v)).2)]
        (s.flags ||| doubleNegationFlags v) s.returnPC) ∧
    (∀ v, v = unpack72 (s.ac ac) (s.ac (ac + 1)) →
      Completes (.dmovnm ac m) s
        [(s.sec e, (pack72 (doubleNegation v)).1), (s.sec (e + 1), (pack72 (doubleNegation v)).2)]
        (s.flags ||| doubleNegationFlags v) s.returnPC)

-- Fixed-point arithmetic

/-- ADD and SUB in the four modes: the wrapped sum or difference of the accumulator and the operand, and the flags of
`add36` or `sub36` set. -/
def Obligations.AddAndSubtractComplete : Prop :=
  (∀ (ac : AcNum) (m : AddrPart), Opcodes
    [(.add ac m, 0o270), (.addi ac m, 0o271), (.addm ac m, 0o272), (.addb ac m, 0o273), (.sub ac m, 0o274),
      (.subi ac m, 0o275), (.subm ac m, 0o276), (.subb ac m, 0o277)]) ∧
  ∀ (s : State) (ac : AcNum) (m : AddrPart) (e : Offset), s.effective m = .ok e → ∀ a, a = s.ac ac →
    (∀ b : Word, b = (0#18) ++ e →
      Completes (.addi ac m) s [(acAddr ac, a + b)] (s.flags ||| (add36 a b).2) s.returnPC ∧
      Completes (.subi ac m) s [(acAddr ac, a - b)] (s.flags ||| (sub36 a b).2) s.returnPC) ∧
    (s.present (s.sec e) = true → ∀ b, b = s.peek (s.sec e) →
      Completes (.add ac m) s [(acAddr ac, a + b)] (s.flags ||| (add36 a b).2) s.returnPC ∧
      Completes (.addm ac m) s [(s.sec e, a + b)] (s.flags ||| (add36 a b).2) s.returnPC ∧
      Completes (.addb ac m) s [(s.sec e, a + b), (acAddr ac, a + b)] (s.flags ||| (add36 a b).2) s.returnPC ∧
      Completes (.sub ac m) s [(acAddr ac, a - b)] (s.flags ||| (sub36 a b).2) s.returnPC ∧
      Completes (.subm ac m) s [(s.sec e, a - b)] (s.flags ||| (sub36 a b).2) s.returnPC ∧
      Completes (.subb ac m) s [(s.sec e, a - b), (acAddr ac, a - b)] (s.flags ||| (sub36 a b).2) s.returnPC)

/-- IMUL and MUL in the four modes: the exact product packed into two words, of which IMUL keeps the low one; AOV and
TR1 are set when, and only when, both operands are the most negative word. -/
def Obligations.MultiplyCompletes : Prop :=
  (∀ (ac : AcNum) (m : AddrPart), Opcodes
    [(.imul ac m, 0o220), (.imuli ac m, 0o221), (.imulm ac m, 0o222), (.imulb ac m, 0o223), (.mul ac m, 0o224),
      (.muli ac m, 0o225), (.mulm ac m, 0o226), (.mulb ac m, 0o227)]) ∧
  ∀ (s : State) (ac : AcNum) (m : AddrPart) (e : Offset), s.effective m = .ok e →
    ∀ (b : Word) (w : Word × Word) (fl : BitVec 13), w = pack72 ((s.ac ac).toInt * b.toInt) →
      fl = flagsIf s (s.ac ac = 0o400000000000 ∧ b = 0o400000000000) [.aov, .tr1] →
      (b = (0#18) ++ e →
        Completes (.imuli ac m) s [(acAddr ac, w.2)] fl s.returnPC ∧
        Completes (.muli ac m) s [(acAddr ac, w.1), (acAddr (ac + 1), w.2)] fl s.returnPC) ∧
      (s.present (s.sec e) = true → b = s.peek (s.sec e) →
        Completes (.imul ac m) s [(acAddr ac, w.2)] fl s.returnPC ∧
        Completes (.imulm ac m) s [(s.sec e, w.2)] fl s.returnPC ∧
        Completes (.imulb ac m) s [(s.sec e, w.2), (acAddr ac, w.2)] fl s.returnPC ∧
        Completes (.mul ac m) s [(acAddr ac, w.1), (acAddr (ac + 1), w.2)] fl s.returnPC ∧
        Completes (.mulm ac m) s [(s.sec e, w.1)] fl s.returnPC ∧
        Completes (.mulb ac m) s [(s.sec e, w.1), (acAddr ac, w.1), (acAddr (ac + 1), w.2)] fl s.returnPC)

/-- IDIV and DIV in the four modes: quotient and remainder of the truncating division of the accumulator (IDIV) or of
the accumulator pair (DIV), or, when the division is not possible, NDV, TR1 and AOV set and nothing else changed. -/
def Obligations.DivideCompletes : Prop :=
  (∀ (ac : AcNum) (m : AddrPart), Opcodes
    [(.idiv ac m, 0o230), (.idivi ac m, 0o231), (.idivm ac m, 0o232), (.idivb ac m, 0o233), (.div ac m, 0o234),
      (.divi ac m, 0o235), (.divm ac m, 0o236), (.divb ac m, 0o237)]) ∧
  ∀ (s : State) (ac : AcNum) (m : AddrPart) (e : Offset), s.effective m = .ok e →
    (∀ (n d : Int) (q r : Word), d ≠ 0 → n.natAbs < d.natAbs * 2 ^ 35 →
      q = BitVec.ofInt 36 (n.tdiv d) → r = BitVec.ofInt 36 (n.tmod d) →
      (n = (s.ac ac).toInt →
        (d = e.toNat →
          Completes (.idivi ac m) s [(acAddr ac, q), (acAddr (ac + 1), r)] s.flags s.returnPC) ∧
        (s.present (s.sec e) = true → d = (s.peek (s.sec e)).toInt →
          Completes (.idiv ac m) s [(acAddr ac, q), (acAddr (ac + 1), r)] s.flags s.returnPC ∧
          Completes (.idivm ac m) s [(s.sec e, q)] s.flags s.returnPC ∧
          Completes (.idivb ac m) s [(s.sec e, q), (acAddr ac, q), (acAddr (ac + 1), r)] s.flags s.returnPC)) ∧
      (n = unpack72 (s.ac ac) (s.ac (ac + 1)) →
        (d = e.toNat →
          Completes (.divi ac m) s [(acAddr ac, q), (acAddr (ac + 1), r)] s.flags s.returnPC) ∧
        (s.present (s.sec e) = true → d = (s.peek (s.sec e)).toInt →
          Completes (.div ac m) s [(acAddr ac, q), (acAddr (ac + 1), r)] s.flags s.returnPC ∧
          Completes (.divm ac m) s [(s.sec e, q)] s.flags s.returnPC ∧
          Completes (.divb ac m) s [(s.sec e, q), (acAddr ac, q), (acAddr (ac + 1), r)] s.flags s.returnPC))) ∧
    ∀ (n d : Int) (fl : BitVec 13), d = 0 ∨ d.natAbs * 2 ^ 35 ≤ n.natAbs → fl = s.flags ||| flagMask [.ndv, .tr1, .aov] →
      (n = (s.ac ac).toInt →
        (d = e.toNat → Completes (.idivi ac m) s [] fl s.returnPC) ∧
        (s.present (s.sec e) = true → d = (s.peek (s.sec e)).toInt →
          Completes (.idiv ac m) s [] fl s.returnPC ∧ Completes (.idivm ac m) s [] fl s.returnPC ∧
          Completes (.idivb ac m) s [] fl s.returnPC)) ∧
      (n = unpack72 (s.ac ac) (s.ac (ac + 1)) →
        (d = e.toNat → Completes (.divi ac m) s [] fl s.returnPC) ∧
        (s.present (s.sec e) = true → d = (s.peek (s.sec e)).toInt →
          Completes (.div ac m) s [] fl s.returnPC ∧ Completes (.divm ac m) s [] fl s.returnPC ∧
          Completes (.divb ac m) s [] fl s.returnPC))

/-- DADD, DSUB, DMUL and DDIV: the double or quadruple result packed into the accumulators; a DDIV that cannot divide
sets NDV, TR1 and AOV and writes nothing. -/
def Obligations.DoubleArithmeticCompletes : Prop :=
  (∀ (ac : AcNum) (m : AddrPart), Opcodes
    [(.dadd ac m, 0o114), (.dsub ac m, 0o115), (.dmul ac m, 0o116), (.ddiv ac m, 0o117)]) ∧
  ∀ (s : State) (ac : AcNum) (m : AddrPart) (e : Offset), s.effective m = .ok e → s.present (s.sec e) = true →
    s.present (s.sec (e + 1)) = true → ∀ a b : Int, a = unpack72 (s.ac ac) (s.ac (ac + 1)) →
    b = unpack72 (s.peek (s.sec e)) (s.peek (s.sec (e + 1))) →
    (∀ w, w = pack72 ((a + b).bmod (2 ^ 71)) →
      Completes (.dadd ac m) s [(acAddr ac, w.1), (acAddr (ac + 1), w.2)]
        (s.flags ||| (add71 (BitVec.ofInt 71 a) (BitVec.ofInt 71 b)).2) s.returnPC) ∧
    (∀ w, w = pack72 ((a - b).bmod (2 ^ 71)) →
      Completes (.dsub ac m) s [(acAddr ac, w.1), (acAddr (ac + 1), w.2)]
        (s.flags ||| (sub71 (BitVec.ofInt 71 a) (BitVec.ofInt 71 b)).2) s.returnPC) ∧
    (∀ w, w = pack144 (a * b) →
      Completes (.dmul ac m) s
        [(acAddr ac, w.1), (acAddr (ac + 1), w.2.1), (acAddr (ac + 2), w.2.2.1), (acAddr (ac + 3), w.2.2.2)]
        (flagsIf s (a = -(2 ^ 70) ∧ b = -(2 ^ 70)) [.aov, .tr1]) s.returnPC) ∧
    (∀ n, n = unpack144 (s.ac ac) (s.ac (ac + 1)) (s.ac (ac + 2)) (s.ac (ac + 3)) → b ≠ 0 →
      n.natAbs < b.natAbs * 2 ^ 70 → ∀ q r, q = pack72 (n.tdiv b) → r = pack72 (n.tmod b) →
      Completes (.ddiv ac m) s
        [(acAddr ac, q.1), (acAddr (ac + 1), q.2), (acAddr (ac + 2), r.1), (acAddr (ac + 3), r.2)] s.flags s.returnPC) ∧
    (∀ n, n = unpack144 (s.ac ac) (s.ac (ac + 1)) (s.ac (ac + 2)) (s.ac (ac + 3)) →
      b = 0 ∨ b.natAbs * 2 ^ 70 ≤ n.natAbs →
      Completes (.ddiv ac m) s [] (s.flags ||| flagMask [.ndv, .tr1, .aov]) s.returnPC)

-- Boolean, shifts, half words, tests

/-- The boolean family: opcode `0400 + 4 fn + mode`, and each bit of the result is the truth table's for the bits of
the accumulator and the operand, stored by mode; no flag changes. -/
def Obligations.BooleanFamilyByTruthTable : Prop :=
  ∀ row ∈ booleanRows,
    (∀ (mode : BitVec 2) (ac : AcNum) (m : AddrPart),
      opField (encode (row.2.at mode ac m)) = 0o400 + 4 * row.1.setWidth 9 + mode.setWidth 9) ∧
    ∀ (s : State) (ac : AcNum) (m : AddrPart) (e : Offset), s.effective m = .ok e → ∀ b r : Word,
      (∀ k < 36, r.getLsbD k = truthBit row.1 ((s.ac ac).getLsbD k) (b.getLsbD k)) →
      (b = (0#18) ++ e → Completes (row.2.immediate ac m) s [(acAddr ac, r)] s.flags s.returnPC) ∧
      (s.present (s.sec e) = true → b = s.peek (s.sec e) →
        Completes (row.2.basic ac m) s [(acAddr ac, r)] s.flags s.returnPC ∧
        Completes (row.2.memory ac m) s [(s.sec e, r)] s.flags s.returnPC ∧
        Completes (row.2.both ac m) s [(s.sec e, r), (acAddr ac, r)] s.flags s.returnPC)

/-- ASH, ROT and LSH: a count whose magnitude is a multiple of 36 changes nothing but PC; a left ASH keeps the sign,
shifts the other 35 bits and sets AOV and TR1 exactly when `S(a) 2^n` does not fit; a right ASH is floor division; ROT
rotates the 36 bits; LSH shifts them. -/
def Obligations.SingleShiftsComplete : Prop :=
  (∀ (ac : AcNum) (m : AddrPart), Opcodes
    [(.ash ac m, 0o240), (.rot ac m, 0o241), (.lsh ac m, 0o242)]) ∧
  ∀ (s : State) (ac : AcNum) (m : AddrPart) (e : Offset) (n : Nat) (a : Word), s.effective m = .ok e →
    n = e.toInt.natAbs % 36 → a = s.ac ac →
    (n = 0 → Completes (.ash ac m) s [] s.flags s.returnPC ∧ Completes (.rot ac m) s [] s.flags s.returnPC ∧
      Completes (.lsh ac m) s [] s.flags s.returnPC) ∧
    (n ≠ 0 → 0 < e.toInt →
      (∀ r : Word, r.msb = a.msb → r.toNat % 2 ^ 35 = a.toNat * 2 ^ n % 2 ^ 35 →
        Completes (.ash ac m) s [(acAddr ac, r)]
          (flagsIf s (a.toInt * 2 ^ n < -(2 ^ 35) ∨ 2 ^ 35 ≤ a.toInt * 2 ^ n) [.aov, .tr1]) s.returnPC) ∧
      Completes (.rot ac m) s [(acAddr ac, a.rotateLeft n)] s.flags s.returnPC ∧
      Completes (.lsh ac m) s [(acAddr ac, a <<< n)] s.flags s.returnPC) ∧
    (n ≠ 0 → e.toInt < 0 →
      Completes (.ash ac m) s [(acAddr ac, BitVec.ofInt 36 (a.toInt / 2 ^ n))] s.flags s.returnPC ∧
      Completes (.rot ac m) s [(acAddr ac, a.rotateRight n)] s.flags s.returnPC ∧
      Completes (.lsh ac m) s [(acAddr ac, a >>> n)] s.flags s.returnPC)

/-- ASHC, ROTC and LSHC: as the single shifts, on the accumulator pair; ASHC shifts the 70 bits below the sign of a
double word and copies the sign into both words. -/
def Obligations.PairShiftsComplete : Prop :=
  (∀ (ac : AcNum) (m : AddrPart), Opcodes
    [(.ashc ac m, 0o244), (.rotc ac m, 0o245), (.lshc ac m, 0o246)]) ∧
  ∀ (s : State) (ac : AcNum) (m : AddrPart) (e : Offset) (n : Nat) (a b : Word) (v : BitVec 72),
    s.effective m = .ok e → n = e.toInt.natAbs % 72 → a = s.ac ac → b = s.ac (ac + 1) → v = a ++ b →
    (n = 0 → Completes (.ashc ac m) s [] s.flags s.returnPC ∧ Completes (.rotc ac m) s [] s.flags s.returnPC ∧
      Completes (.lshc ac m) s [] s.flags s.returnPC) ∧
    (n ≠ 0 → 0 < e.toInt →
      (∀ h l : Word, h.msb = a.msb → l.msb = a.msb →
        unpack72 h l % 2 ^ 70 = unpack72 a b * 2 ^ n % 2 ^ 70 →
        Completes (.ashc ac m) s [(acAddr ac, h), (acAddr (ac + 1), l)]
          (flagsIf s (unpack72 a b * 2 ^ n < -(2 ^ 70) ∨ 2 ^ 70 ≤ unpack72 a b * 2 ^ n) [.aov, .tr1]) s.returnPC) ∧
      (∀ r, r = v.rotateLeft n →
        Completes (.rotc ac m) s [(acAddr ac, r.extractLsb' 36 36), (acAddr (ac + 1), r.extractLsb' 0 36)] s.flags
          s.returnPC) ∧
      (∀ r, r = v <<< n →
        Completes (.lshc ac m) s [(acAddr ac, r.extractLsb' 36 36), (acAddr (ac + 1), r.extractLsb' 0 36)] s.flags
          s.returnPC)) ∧
    (n ≠ 0 → e.toInt < 0 →
      (∀ r, r = pack72 (unpack72 a b / 2 ^ n) →
        Completes (.ashc ac m) s [(acAddr ac, r.1), (acAddr (ac + 1), r.2)] s.flags s.returnPC) ∧
      (∀ r, r = v.rotateRight n →
        Completes (.rotc ac m) s [(acAddr ac, r.extractLsb' 36 36), (acAddr (ac + 1), r.extractLsb' 0 36)] s.flags
          s.returnPC) ∧
      (∀ r, r = v >>> n →
        Completes (.lshc ac m) s [(acAddr ac, r.extractLsb' 36 36), (acAddr (ac + 1), r.extractLsb' 0 36)] s.flags
          s.returnPC))

/-- The half-word family: opcode `0500 + 040 destRight + 010 fill + 04 cross + mode`; the moved half lands in the
destination half and the other half is kept, cleared, set or filled with the moved half's sign; no flag changes. -/
def Obligations.HalfWordFamilyCompletes : Prop :=
  ∀ row ∈ halfRows,
    (∀ (mode : BitVec 2) (ac : AcNum) (m : AddrPart),
      opField (encode (row.modes.at mode ac m)) =
        0o500 + (if row.destRight then 0o40 else 0) + 8 * (fillCode row.fill).setWidth 9
          + (if row.cross then 4 else 0) + mode.setWidth 9) ∧
    ∀ (s : State) (ac : AcNum) (m : AddrPart) (e : Offset), s.effective m = .ok e →
      ∀ (src old r : Word) (h : Half), h = halfOf (row.destRight != row.cross) src → halfOf row.destRight r = h →
        halfOf (!row.destRight) r = (match row.fill with
          | .asIs => halfOf (!row.destRight) old
          | .zeros => 0
          | .ones => BitVec.allOnes 18
          | .signExtend => if h.msb then BitVec.allOnes 18 else 0) →
        (src = (0#18) ++ e → old = s.ac ac →
          Completes (row.modes.immediate ac m) s [(acAddr ac, r)] s.flags s.returnPC) ∧
        (s.present (s.sec e) = true →
          (src = s.peek (s.sec e) → old = s.ac ac →
            Completes (row.modes.basic ac m) s [(acAddr ac, r)] s.flags s.returnPC) ∧
          (src = s.ac ac → old = s.peek (s.sec e) →
            Completes (row.modes.memory ac m) s [(s.sec e, r)] s.flags s.returnPC) ∧
          (src = s.peek (s.sec e) → old = src →
            Completes (row.modes.both ac m) s ((s.sec e, r) :: whenWritten (ac ≠ 0) (acAddr ac, r)) s.flags
              s.returnPC))

/-- The logical test family: opcode `0600 + 020 mod + 010 memgrp + 02 cond + lowbit`; the masked bits of the
accumulator are kept, cleared, complemented or set, and the skip is decided on them as they were; no flag changes. -/
def Obligations.TestFamilyCompletes : Prop :=
  ∀ row ∈ testRows,
    (∀ (ac : AcNum) (m : AddrPart) (op : BitVec 9),
      op = 0o600 + 16 * (modifyCode row.modify).setWidth 9 + 2 * (testCode row.cond).setWidth 9 →
      opField (encode (row.right ac m)) = op ∧ opField (encode (row.left ac m)) = op + 1 ∧
      opField (encode (row.direct ac m)) = op + 8 ∧ opField (encode (row.swap ac m)) = op + 9) ∧
    ∀ (s : State) (ac : AcNum) (m : AddrPart) (e : Offset), s.effective m = .ok e →
      ∀ (a mask new : Word) (pc : VAddr), a = s.ac ac →
        (∀ k < 36, new.getLsbD k = if mask.getLsbD k then (match row.modify with
          | .none => a.getLsbD k
          | .zero => false
          | .complement => !a.getLsbD k
          | .set => true) else a.getLsbD k) →
        pc = (if testSkips row.cond a mask then skipPC s else s.returnPC) →
        ∀ ws, ws = whenWritten (row.modify ≠ .none) (acAddr ac, new) →
          (mask = (0#18) ++ e → Completes (row.right ac m) s ws s.flags pc) ∧
          (mask = e ++ (0#18) → Completes (row.left ac m) s ws s.flags pc) ∧
          (s.present (s.sec e) = true →
            (mask = s.peek (s.sec e) → Completes (row.direct ac m) s ws s.flags pc) ∧
            (mask = rh (s.peek (s.sec e)) ++ lh (s.peek (s.sec e)) → Completes (row.swap ac m) s ws s.flags pc))

-- Arithmetic tests, skips and jumps

/-- CAI and CAM under the eight conditions: the signed comparison decides the skip, nothing is written. -/
def Obligations.ComparesSkipOnCondition : Prop :=
  ∀ row ∈ condRows,
    (∀ (ac : AcNum) (m : AddrPart), opField (encode (row.cai ac m)) = 0o300 + row.code.setWidth 9 ∧
      opField (encode (row.cam ac m)) = 0o310 + row.code.setWidth 9) ∧
    ∀ (s : State) (ac : AcNum) (m : AddrPart) (e : Offset), s.effective m = .ok e →
      Completes (row.cai ac m) s [] s.flags
        (if row.holds ((s.ac ac).toInt - e.toNat) then skipPC s else s.returnPC) ∧
      (s.present (s.sec e) = true →
        Completes (row.cam ac m) s [] s.flags
          (if row.holds ((s.ac ac).toInt - (s.peek (s.sec e)).toInt) then skipPC s else s.returnPC))

/-- JUMP and SKIP under the eight conditions: JUMP tests the accumulator and goes to E; SKIP tests the memory word and
loads it into the accumulator unless that is register 0. -/
def Obligations.JumpsAndSkipsOnCondition : Prop :=
  ∀ row ∈ condRows,
    (∀ (ac : AcNum) (m : AddrPart), opField (encode (row.jump ac m)) = 0o320 + row.code.setWidth 9 ∧
      opField (encode (row.skip ac m)) = 0o330 + row.code.setWidth 9) ∧
    ∀ (s : State) (ac : AcNum) (m : AddrPart) (e : Offset), s.effective m = .ok e →
      Completes (row.jump ac m) s [] s.flags (if row.holds (s.ac ac).toInt then s.sec e else s.returnPC) ∧
      (s.present (s.sec e) = true → ∀ v, v = s.peek (s.sec e) →
        Completes (row.skip ac m) s (whenWritten (ac ≠ 0) (acAddr ac, v)) s.flags
          (if row.holds v.toInt then skipPC s else s.returnPC))

/-- AOJ, SOJ, AOS and SOS under the eight conditions: one is added or subtracted, the flags of R290 are set, and the
condition is tested on the result. -/
def Obligations.IncrementsTestTheResult : Prop :=
  ∀ row ∈ condRows,
    (∀ (ac : AcNum) (m : AddrPart), opField (encode (row.aoj ac m)) = 0o340 + row.code.setWidth 9 ∧
      opField (encode (row.aos ac m)) = 0o350 + row.code.setWidth 9 ∧
      opField (encode (row.soj ac m)) = 0o360 + row.code.setWidth 9 ∧
      opField (encode (row.sos ac m)) = 0o370 + row.code.setWidth 9) ∧
    ∀ (s : State) (ac : AcNum) (m : AddrPart) (e : Offset), s.effective m = .ok e →
      (∀ a, a = s.ac ac →
        Completes (row.aoj ac m) s [(acAddr ac, a + 1)] (s.flags ||| incrementFlags a)
          (if row.holds (a + 1).toInt then s.sec e else s.returnPC) ∧
        Completes (row.soj ac m) s [(acAddr ac, a - 1)] (s.flags ||| decrementFlags a)
          (if row.holds (a - 1).toInt then s.sec e else s.returnPC)) ∧
      (s.present (s.sec e) = true → ∀ a, a = s.peek (s.sec e) →
        Completes (row.aos ac m) s ((s.sec e, a + 1) :: whenWritten (ac ≠ 0) (acAddr ac, a + 1))
          (s.flags ||| incrementFlags a) (if row.holds (a + 1).toInt then skipPC s else s.returnPC) ∧
        Completes (row.sos ac m) s ((s.sec e, a - 1) :: whenWritten (ac ≠ 0) (acAddr ac, a - 1))
          (s.flags ||| decrementFlags a) (if row.holds (a - 1).toInt then skipPC s else s.returnPC))

/-- AOBJP, AOBJN and JFFO: one is added to both halves and the sign of the result decides the jump; the number of
leading zeros of a word that is not 0 goes to the next accumulator with a jump, and 0 with none. -/
def Obligations.LoopJumpsComplete : Prop :=
  (∀ (ac : AcNum) (m : AddrPart), Opcodes
    [(.aobjp ac m, 0o252), (.aobjn ac m, 0o253), (.jffo ac m, 0o243)]) ∧
  ∀ (s : State) (ac : AcNum) (m : AddrPart) (e : Offset) (a r : Word), s.effective m = .ok e → a = s.ac ac →
    (r = (lh a + 1) ++ (rh a + 1) →
      Completes (.aobjp ac m) s [(acAddr ac, r)] s.flags (if r.msb then s.returnPC else s.sec e) ∧
      Completes (.aobjn ac m) s [(acAddr ac, r)] s.flags (if r.msb then s.sec e else s.returnPC)) ∧
    (a = 0 → Completes (.jffo ac m) s [(acAddr (ac + 1), 0)] s.flags s.returnPC) ∧
    (∀ n < 36, a.getMsbD n = true → (∀ k < n, a.getMsbD k = false) →
      Completes (.jffo ac m) s [(acAddr (ac + 1), BitVec.ofNat 36 n)] s.flags (s.sec e))

-- Program control

/-- JRST, PORTAL, JRSTF and JFCL. JRST and PORTAL jump to E and change nothing else. JRSTF restores FLAGS from
`lastWord`, which is its own word when nothing indexes or indirects, and jumps to E. JFCL clears the flags its
accumulator field selects among AOV, CRY0, CRY1 and FOV and jumps if one of them was 1. -/
def Obligations.UnprivilegedJumpsComplete : Prop :=
  (∀ (ac : AcNum) (m : AddrPart), Heads
    [(.jrst m, (0o254#9) ++ (0o00#4)), (.portal m, (0o254#9) ++ (0o01#4)), (.jrstf m, (0o254#9) ++ (0o02#4)),
      (.jfcl ac m, (0o255#9) ++ ac)]) ∧
  ∀ (s : State) (m : AddrPart) (e : Offset), s.effective m = .ok e →
    Completes (.jrst m) s [] s.flags (s.sec e) ∧ Completes (.portal m) s [] s.flags (s.sec e) ∧
    (∀ last, s.resolve m (encode (.jrstf m)) = .ok (e, last) →
      ∃ fl, Restored s.flags fl last ∧ Completes (.jrstf m) s [] fl (s.sec e)) ∧
    ∀ ac : AcNum, ∃ fl,
      (∀ f, hasFlag fl f = (hasFlag s.flags f && !(match f with
        | .aov => ac.getMsbD 0
        | .cry0 => ac.getMsbD 1
        | .cry1 => ac.getMsbD 2
        | .fov => ac.getMsbD 3
        | _ => false))) ∧
      ((∃ f, hasFlag s.flags f = true ∧ hasFlag fl f = false) → Completes (.jfcl ac m) s [] fl (s.sec e)) ∧
      ((∀ f, hasFlag s.flags f = hasFlag fl f) → Completes (.jfcl ac m) s [] fl s.returnPC)

/-- HALT, JRST 10 and JEN where they are legal: HALT clears RUNNING, JRST 10 dismisses the interrupt, JEN restores the
flags and dismisses it; each goes to E. -/
def Obligations.PrivilegedJumpsComplete : Prop :=
  (∀ m : AddrPart, Heads
    [(.halt m, (0o254#9) ++ (0o04#4)), (.jrst10 m, (0o254#9) ++ (0o10#4)), (.jen m, (0o254#9) ++ (0o12#4))]) ∧
  ∀ (s : State) (m : AddrPart) (e : Offset), (s.flag .usr = false ∨ s.flag .uio = true) →
    (s.effective m = .ok e →
      CompletesFrom { s with running := false } (.halt m) s [] s.flags (s.sec e) ∧
      (s.pi.current = none → Completes (.jrst10 m) s [] s.flags (s.sec e)) ∧
      (s.pi.current ≠ none → ∃ q, Dismissed s.pi q ∧
        CompletesFrom { s with pi := q } (.jrst10 m) s [] s.flags (s.sec e))) ∧
    (∀ last, s.resolve m (encode (.jen m)) = .ok (e, last) → ∃ fl, Restored s.flags fl last ∧
      (s.pi.current = none → Completes (.jen m) s [] fl (s.sec e)) ∧
      (s.pi.current ≠ none → ∃ q, Dismissed s.pi q ∧ CompletesFrom { s with pi := q } (.jen m) s [] fl (s.sec e)))

/-- HALT, JRST 10, JEN and every I/O instruction in user mode without UIO take a monitor call and do nothing else. That
its process-table addresses wrap at 30 bits, for a base near 2^30, is the model's choice (log 14). -/
def Obligations.PrivilegedTakeMonitorCall : Prop :=
  ∀ (s : State) (m : AddrPart) (e : Offset), s.flag .usr = true → s.flag .uio = false → s.effective m = .ok e →
    MuuoPossible s →
    TakesMuuo (.halt m) s ((0o254#9) ++ (0o04#4)) e ∧ TakesMuuo (.jrst10 m) s ((0o254#9) ++ (0o10#4)) e ∧
    TakesMuuo (.jen m) s ((0o254#9) ++ (0o12#4)) e ∧
    ∀ row ∈ ioRows, ∀ dev, TakesMuuo (row.instr dev m) s ((7#3) ++ dev ++ row.code) e

/-- XCT asks for the word at E to be dispatched next, and an LUUO stores its opcode, accumulator field and E at
`sec(040)` and asks for the word at `sec(041)`; PC and FLAGS are as they were. -/
def Obligations.ExecuteAndLocalCallRedispatch : Prop :=
  (∀ (ac : AcNum) (m : AddrPart), opField (encode (.xct ac m)) = 0o256 ∧
    ∀ row ∈ localCalls, opField (encode (row.2 ac m)) = row.1) ∧
  ∀ (s : State) (ac : AcNum) (m : AddrPart) (e : Offset), s.effective m = .ok e →
    (s.present (s.sec e) = true →
      CompletesFrom { s with redispatch := some (s.peek (s.sec e)) } (.xct ac m) s [] s.flags s.pc) ∧
    (∀ row ∈ localCalls, s.present (s.sec 0o40) = true → s.present (s.sec 0o41) = true →
      CompletesFrom { s with redispatch := some (s.peek (s.sec 0o41)) } (row.2 ac m) s
        [(s.sec 0o40, row.1 ++ ac ++ (0#5) ++ e)] s.flags s.pc)

/-- JSR, JSP, JSA and JRA: the return word goes to E or to the accumulator with the flag clears of R529, or the
accumulator is saved at E and reloaded. -/
def Obligations.SubroutineCallsComplete : Prop :=
  (∀ (ac : AcNum) (m : AddrPart), Opcodes
    [(.jsr ac m, 0o264), (.jsp ac m, 0o265), (.jsa ac m, 0o266), (.jra ac m, 0o267)]) ∧
  ∀ (s : State) (ac : AcNum) (m : AddrPart) (e : Offset), s.effective m = .ok e →
    Completes (.jsp ac m) s [(acAddr ac, returnWord s)] (linkageFlags s) (s.sec e) ∧
    (s.present (s.sec e) = true →
      Completes (.jsr ac m) s [(s.sec e, returnWord s)] (linkageFlags s) (s.sec (e + 1)) ∧
      Completes (.jsa ac m) s [(s.sec e, s.ac ac), (acAddr ac, e ++ offsetOf s.returnPC)] s.flags (s.sec (e + 1))) ∧
    (s.present (s.sec (lh (s.ac ac))) = true →
      Completes (.jra ac m) s [(acAddr ac, s.peek (s.sec (lh (s.ac ac))))] s.flags (s.sec e))

/-- PUSHJ, PUSH, POPJ, POP and ADJSP: both halves of the stack pointer move by one, the word goes to or comes from
`sec(RH)`, and TR2 is set when the count half reaches 0 on a push or 777777 on a pop; ADJSP adds
E to both halves and sets TR2 when the count half crosses zero in the direction of the adjustment. -/
def Obligations.StackInstructionsComplete : Prop :=
  (∀ (ac : AcNum) (m : AddrPart), Opcodes
    [(.pushj ac m, 0o260), (.push ac m, 0o261), (.pop ac m, 0o262), (.popj ac m, 0o263), (.adjsp ac m, 0o105)]) ∧
  ∀ (s : State) (ac : AcNum) (m : AddrPart) (e : Offset) (a up down : Word), s.effective m = .ok e → a = s.ac ac →
    up = (lh a + 1) ++ (rh a + 1) → down = (lh a - 1) ++ (rh a - 1) →
    (s.present (s.sec (rh up)) = true →
      Completes (.pushj ac m) s [(acAddr ac, up), (s.sec (rh up), returnWord s)]
        (if lh up = 0 then linkageFlags s ||| flagMask [.tr2] else linkageFlags s) (s.sec e) ∧
      (s.present (s.sec e) = true →
        Completes (.push ac m) s [(acAddr ac, up), (s.sec (rh up), s.peek (s.sec e))]
          (flagsIf s (lh up = 0) [.tr2]) s.returnPC)) ∧
    (s.present (s.sec (rh a)) = true →
      Completes (.popj ac m) s [(acAddr ac, down)] (flagsIf s (lh down = 0o777777) [.tr2])
        (s.sec (rh (s.peek (s.sec (rh a))))) ∧
      (s.present (s.sec e) = true →
        Completes (.pop ac m) s [(acAddr ac, down), (s.sec e, s.peek (s.sec (rh a)))]
          (flagsIf s (lh down = 0o777777) [.tr2]) s.returnPC)) ∧
    (∀ l, l = lh a + e → Completes (.adjsp ac m) s [(acAddr ac, l ++ (rh a + e))]
      (flagsIf s ((0 ≤ e.toInt ∧ (lh a).toInt < 0 ∧ 0 ≤ l.toInt) ∨ (e.toInt < 0 ∧ 0 ≤ (lh a).toInt ∧ l.toInt < 0))
        [.tr2]) s.returnPC)

-- Byte instructions

/-- Where a byte pointer points: position, size and address of a Local-1, Global-1 or Global-2 pointer; code 077 is the
fault BadBytePointer. That the further indirect words of a Global-2 pointer come from the PC's section is the model's
reading (log 13). -/
def Obligations.BytePointerResolves : Prop :=
  ∀ (s : State) (e : Offset) (w : Word) (code size : Nat), s.present (s.sec e) = true → w = s.peek (s.sec e) →
    code = (w.extractLsb' 30 6).toNat → size = (w.extractLsb' 24 6).toNat →
    (code = 63 → s.getPSA e = .error .badBytePointer) ∧
    (36 < code → code < 63 →
      s.getPSA e = .ok ((global1Field code).2, (global1Field code).1, w.extractLsb' 0 30)) ∧
    (code ≤ 36 → w.getMsbD 12 = false → ∀ r, s.resolve (AddrPart.ofWord w) w = .ok r →
      s.getPSA e = .ok (code, size, s.sec r.1)) ∧
    (code ≤ 36 → w.getMsbD 12 = true → s.present (s.sec (e + 1)) = true → ∀ a : VAddr,
      a = (s.peek (s.sec (e + 1))).extractLsb' 0 30
        + (if (AddrPart.ofWord w).index = 0 then 0 else (s.ac (AddrPart.ofWord w).index).extractLsb' 0 30) →
      ((AddrPart.ofWord w).indirect = false → s.getPSA e = .ok (code, size, a)) ∧
      ((AddrPart.ofWord w).indirect = true → s.present a = true → ∀ r,
        s.resolve (AddrPart.ofWord (s.peek a)) (s.peek a) = .ok r →
        s.getPSA e = .ok (code, size, sectionOf a ++ r.1)))

/-- LDB and DPB, and ILDB and IDPB after the increment that IBP does unless FPD is 1: the byte of `size` bits with
`position` bits to its right, zero-extended into the accumulator or replaced by the low bits of the accumulator; ILDB
and IDPB clear FPD. -/
def Obligations.ByteLoadsAndDepositsComplete : Prop :=
  (∀ (ac : AcNum) (m : AddrPart), Opcodes
    [(.ildb ac m, 0o134), (.ldb ac m, 0o135), (.idpb ac m, 0o136), (.dpb ac m, 0o137)]) ∧
  ∀ (s : State) (ac : AcNum) (m : AddrPart) (e : Offset), s.effective m = .ok e →
    ∀ (u : State) (position size : Nat) (a : VAddr) (loaded deposited : Word), u.getPSA e = .ok (position, size, a) →
      u.present a = true →
      (∀ k < 36, loaded.getLsbD k = (decide (k < size) && (u.peek a).getLsbD (position + k))) →
      (∀ k < 36, deposited.getLsbD k =
        if position ≤ k ∧ k < position + size then (u.ac ac).getLsbD (k - position) else (u.peek a).getLsbD k) →
      (u = s → Completes (.ldb ac m) s [(acAddr ac, loaded)] s.flags s.returnPC ∧
        Completes (.dpb ac m) s [(a, deposited)] s.flags s.returnPC) ∧
      ((s.flag .fpd = true ∧ u = s) ∨ (s.flag .fpd = false ∧ s.incPointer e = .ok u) →
        CompletesFrom u (.ildb ac m) s [(acAddr ac, loaded)] (s.flags &&& ~~~flagMask [.fpd]) s.returnPC ∧
        CompletesFrom u (.idpb ac m) s [(a, deposited)] (s.flags &&& ~~~flagMask [.fpd]) s.returnPC)

/-- IBP advances the pointer by one byte in place: the position falls by the size, or the pointer moves to the first
byte of the next word; what each of the three kinds writes, and that `inc(E)` alone does the same but for PC. -/
def Obligations.IncrementBytePointerCompletes : Prop :=
  (∀ m : AddrPart, Heads
    [(.ibp m, (0o133#9) ++ (0#4))]) ∧
  ∀ (s : State) (m : AddrPart) (e : Offset) (w : Word) (code size : Nat), s.effective m = .ok e →
    s.present (s.sec e) = true → w = s.peek (s.sec e) →
    code = (w.extractLsb' 30 6).toNat → size = (w.extractLsb' 24 6).toNat →
    (∀ u, s.incPointer e = .ok u → exec (.ibp m) s = .next { u with pc := s.returnPC }) ∧
    (code = 63 → exec (.ibp m) s = .fault .badBytePointer) ∧
    (36 < code → code < 63 → (global1Field code).1 ≤ (global1Field code).2 →
      Completes (.ibp m) s [(s.sec e, BitVec.ofNat 6 (code + 1) ++ w.extractLsb' 0 30)] s.flags s.returnPC) ∧
    (36 < code → code < 63 → (global1Field code).2 < (global1Field code).1 →
      Completes (.ibp m) s
        [(s.sec e, BitVec.ofNat 6 (firstCode (global1Field code).1 + 1) ++ (w.extractLsb' 0 30 + 1))] s.flags
        s.returnPC) ∧
    (code ≤ 36 → size ≤ code →
      Completes (.ibp m) s [(s.sec e, BitVec.ofNat 6 (code - size) ++ w.extractLsb' 0 30)] s.flags s.returnPC) ∧
    (code ≤ 36 → code < size → w.getMsbD 12 = false →
      Completes (.ibp m) s
        [(s.sec e, BitVec.ofInt 6 (36 - (size : Int)) ++ w.extractLsb' 18 12 ++ (w.extractLsb' 0 18 + 1))] s.flags
        s.returnPC) ∧
    (code ≤ 36 → code < size → w.getMsbD 12 = true → s.present (s.sec (e + 1)) = true →
      ∀ w2, w2 = s.peek (s.sec (e + 1)) →
      Completes (.ibp m) s
        [(s.sec e, BitVec.ofInt 6 (36 - (size : Int)) ++ w.extractLsb' 0 30),
          (s.sec (e + 1), w2.extractLsb' 30 6 ++ (w2.extractLsb' 0 30 + 1))] s.flags s.returnPC)

/-- ADJBP moves the pointer it reads by the accumulator's signed count of bytes, keeping the alignment in the word,
into the accumulator (and the next for Global-2); a size of 0 copies the pointer, and a size of which no byte fits in
a word sets NDV, TR1 and AOV and writes nothing. -/
def Obligations.AdjustBytePointerCompletes : Prop :=
  (∀ (ac : AcNum) (m : AddrPart), Opcodes
    [(.adjbp ac m, 0o133)]) ∧
  ∀ (s : State) (ac : AcNum) (m : AddrPart) (e : Offset) (w w2 : Word) (code size position : Nat),
    s.effective m = .ok e → s.present (s.sec e) = true → w = s.peek (s.sec e) →
    code = (w.extractLsb' 30 6).toNat →
    (code = 63 → exec (.adjbp ac m) s = .fault .badBytePointer) ∧
    (code < 63 →
      (36 < code → size = (global1Field code).1 ∧ position = (global1Field code).2) →
      (code ≤ 36 → size = (w.extractLsb' 24 6).toNat ∧ position = code) →
      (code ≤ 36 → w.getMsbD 12 = true → s.present (s.sec (e + 1)) = true ∧ w2 = s.peek (s.sec (e + 1))) →
      (size = 0 →
        (w.getMsbD 12 = false → Completes (.adjbp ac m) s [(acAddr ac, w)] s.flags s.returnPC) ∧
        (w.getMsbD 12 = true → Completes (.adjbp ac m) s [(acAddr ac, w), (acAddr (ac + 1), w2)] s.flags s.returnPC)) ∧
      (size ≠ 0 → (36 - position) / size + position / size = 0 →
        Completes (.adjbp ac m) s [] (s.flags ||| flagMask [.ndv, .tr1, .aov]) s.returnPC) ∧
      (∀ (bpw n q p : Int), bpw = ((36 - position) / size + position / size : Nat) → size ≠ 0 → bpw ≠ 0 →
        n = (s.ac ac).toInt + ((36 - position) / size : Nat) → q = (n - 1) / bpw →
        p = 36 - (n - q * bpw) * size - ((36 - position) % size : Nat) →
        (36 < code → ∀ c : Nat, 36 < c → c < 63 → (global1Field c).1 = size → ((global1Field c).2 : Int) = p →
          Completes (.adjbp ac m) s
            [(acAddr ac, BitVec.ofNat 6 c ++ (w.extractLsb' 0 30 + BitVec.ofInt 30 q))] s.flags s.returnPC) ∧
        (code ≤ 36 → w.getMsbD 12 = false →
          Completes (.adjbp ac m) s
            [(acAddr ac, BitVec.ofInt 6 p ++ w.extractLsb' 18 12 ++ (w.extractLsb' 0 18 + BitVec.ofInt 18 q))] s.flags
            s.returnPC) ∧
        (code ≤ 36 → w.getMsbD 12 = true →
          Completes (.adjbp ac m) s
            [(acAddr ac, BitVec.ofInt 6 p ++ w.extractLsb' 0 30),
              (acAddr (ac + 1), w2.extractLsb' 30 6 ++ (w2.extractLsb' 0 30 + BitVec.ofInt 30 q))] s.flags
            s.returnPC)))

/-- A byte deposited and then loaded through the same position and size gives the low bits deposited, for every field
inside the word, and a deposit changes no other bit. -/
def Obligations.DepositedByteLoadsBack : Prop :=
  ∀ (position size : Nat) (old v : Word), position + size ≤ 36 →
    byteOf position size (depositByte position size old v) = BitVec.ofNat 36 (v.toNat % 2 ^ size) ∧
    ∀ k, k < position ∨ position + size ≤ k → (depositByte position size old v).getLsbD k = old.getLsbD k

/-- Adjusting an aligned pointer by N ≥ 1 bytes is N increments of it, for every size from 1 to 36; and what an
adjustment computes from an entry of the Global-1 table, for any count, is again an entry of the same size. -/
def Obligations.AdjustEqualsIncrements : Prop :=
  (∀ (size j N : Nat), 1 ≤ size → size ≤ 36 → j * size ≤ 36 → 1 ≤ N →
    adjustPointer (36 - j * size) size (N : Int) = incremented size N (36 - j * size, 0)) ∧
  ∀ (code : Nat) (count : Int), 36 < code → code < 63 →
    ∃ c, 36 < c ∧ c < 63 ∧ (global1Field c).1 = (global1Field code).1 ∧
      (global1Field c).2 = (adjustPointer (global1Field code).2 (global1Field code).1 count).1 ∧
      global1Code (global1Field c).1 (global1Field c).2 = c

-- Monitor calls and I/O

/-- A monitor-call opcode stores its instruction and the return word in the user process table and takes FLAGS and
PC from the new-PC word of the mode; with `UNASSIGNED_POLICY` = muuo so does every opcode and JRST function without a
handler, and with refuse that is the fault UnassignedOpcode. That the process-table addresses wrap at 30 bits, for a base
near 2^30, is the model's choice (log 14). -/
def Obligations.MonitorCallsComplete : Prop :=
  (∀ (ac : AcNum) (m : AddrPart),
    (∀ row ∈ monitorCalls ++ unassignedOpcodes, opField (encode (row.2 ac m)) = row.1) ∧
    ∀ row ∈ unassignedFunctions, headField (encode (row.2 m)) = (0o254#9) ++ row.1) ∧
  ∀ (s : State) (ac : AcNum) (m : AddrPart) (e : Offset), s.effective m = .ok e →
    (MuuoPossible s → ∀ row ∈ monitorCalls, TakesMuuo (row.2 ac m) s (row.1 ++ ac) e) ∧
    (s.params.unassignedPolicy = .muuo → MuuoPossible s →
      (∀ row ∈ unassignedOpcodes, TakesMuuo (row.2 ac m) s (row.1 ++ ac) e) ∧
      (∀ row ∈ unassignedFunctions, TakesMuuo (row.2 m) s ((0o254#9) ++ row.1) e)) ∧
    (s.params.unassignedPolicy = .refuse →
      (∀ row ∈ unassignedOpcodes, exec (row.2 ac m) s = .fault (.unassignedOpcode (row.1 ++ ac))) ∧
      (∀ row ∈ unassignedFunctions, exec (row.2 m) s = .fault (.unassignedOpcode ((0o254#9) ++ row.1))))

/-- The eight I/O instructions on a device that implements them, where I/O is legal: one transaction, of which the
words that cross are the rule's; `word` is what the device answers, whatever it is. The registry premise is the
invariant's. -/
def Obligations.DeviceInstructionsComplete : Prop :=
  (∀ row ∈ ioRows, ∀ dev m, headField (encode (row.instr dev m)) = (7#3) ++ dev ++ row.code) ∧
  ∀ (s : State) (d : Device) (m : AddrPart) (e : Offset), registryFrom 0 s.devices = true → d ∈ s.devices →
    (s.flag .usr = false ∨ s.flag .uio = true) → s.effective m = .ok e →
    (d.caps.getLsbD 4 = true →
      CompletesFrom (s.deviceCall d.id (.condOut d.id e)) (.cono d.id m) s [] s.flags s.returnPC) ∧
    (∀ word : Word, word = Config.deviceWord (.condIn d.id :: s.ioLog) s.icount →
      (d.caps.getLsbD 6 = true →
        CompletesFrom (s.deviceCall d.id (.condIn d.id)) (.consz d.id m) s [] s.flags
          (if word &&& ((0#18) ++ e) = 0 then skipPC s else s.returnPC)) ∧
      (d.caps.getLsbD 7 = true →
        CompletesFrom (s.deviceCall d.id (.condIn d.id)) (.conso d.id m) s [] s.flags
          (if word &&& ((0#18) ++ e) = 0 then s.returnPC else skipPC s)) ∧
      (d.caps.getLsbD 5 = true → s.present (s.sec e) = true →
        CompletesFrom (s.deviceCall d.id (.condIn d.id)) (.coni d.id m) s [(s.sec e, word)] s.flags s.returnPC)) ∧
    (s.present (s.sec e) = true → ∀ word next : Word,
      word = Config.deviceWord (.dataIn d.id :: s.ioLog) s.icount →
      next = (lh (s.peek (s.sec e)) + 1) ++ (rh (s.peek (s.sec e)) + 1) →
      ∀ pc, pc = (if decide (lh next = 0) = s.params.blkSkipOnCarry then skipPC s else s.returnPC) →
      (d.caps.getLsbD 1 = true →
        CompletesFrom (s.deviceCall d.id (.dataIn d.id)) (.datai d.id m) s [(s.sec e, word)] s.flags s.returnPC) ∧
      (d.caps.getLsbD 3 = true →
        CompletesFrom (s.deviceCall d.id (.dataOut d.id (s.peek (s.sec e)))) (.datao d.id m) s [] s.flags
          s.returnPC) ∧
      (d.caps.getLsbD 0 = true → d.caps.getLsbD 1 = true → s.present (s.sec (rh next)) = true →
        CompletesFrom (s.deviceCall d.id (.dataIn d.id)) (.blki d.id m) s [(s.sec e, next), (s.sec (rh next), word)]
          s.flags pc) ∧
      (d.caps.getLsbD 2 = true → d.caps.getLsbD 3 = true → s.present (s.sec (rh next)) = true →
        CompletesFrom (s.deviceCall d.id (.dataOut d.id (overwrite s.peek [(s.sec e, next)] (s.sec (rh next)))))
          (.blko d.id m) s [(s.sec e, next)] s.flags pc))

/-- An I/O instruction to an unknown device, or for an operation the device does not implement, or to the controller
for one of the four it does not implement: with `IO_POLICY` = continue a diagnostic event and nothing else, with fault
the fault of that name. -/
def Obligations.MissingDeviceOrOperation : Prop :=
  ∀ (s : State) (m : AddrPart) (e : Offset) (dev : DevId), registryFrom 0 s.devices = true →
    (s.flag .usr = false ∨ s.flag .uio = true) → s.effective m = .ok e → ∀ row ∈ ioRows,
      (dev ≠ 1 → (∀ d ∈ s.devices, d.id ≠ dev) →
        (s.params.ioPolicy = .continue →
          CompletesFrom { s with ioLog := .noSuchDevice dev :: s.ioLog } (row.instr dev m) s [] s.flags s.returnPC) ∧
        (s.params.ioPolicy = .fault → exec (row.instr dev m) s = .fault (.noSuchDevice dev))) ∧
      ((dev = 1 ∧ row.code.toNat < 4) ∨
          (∃ d ∈ s.devices, d.id = dev ∧ ∃ k ∈ row.needs, d.caps.getLsbD k = false) →
        (s.params.ioPolicy = .continue →
          CompletesFrom { s with ioLog := .notImplemented dev row.op :: s.ioLog } (row.instr dev m) s [] s.flags
            s.returnPC) ∧
        (s.params.ioPolicy = .fault → exec (row.instr dev m) s = .fault (.ioNotImplemented dev row.op)))

/-- The interrupt controller as a device: CONO applies its selected actions in the order clear, drop, set, enable,
disable, off, on; CONI, CONSZ and CONSO read its condition word. -/
def Obligations.ControllerInstructionsComplete : Prop :=
  ∀ (s : State) (m : AddrPart) (e : Offset), (s.flag .usr = false ∨ s.flag .uio = true) → s.effective m = .ok e →
    (∀ (p : InterruptController) (sel : BitVec 7), sel = e.extractLsb' 0 7 →
      p.turnedOn = (e.getLsbD 7 || (s.pi.turnedOn && !e.getLsbD 8 && !e.getLsbD 12)) →
      p.enabled = (((if e.getLsbD 12 then 0 else s.pi.enabled) ||| (if e.getLsbD 10 then sel else 0))
        &&& ~~~(if e.getLsbD 9 then sel else 0)) →
      p.held = (if e.getLsbD 12 then 0 else s.pi.held) →
      p.request = (((if e.getLsbD 12 then 0 else s.pi.request) &&& ~~~(if e.getLsbD 13 then sel else 0))
        ||| (if e.getLsbD 11 then sel else 0)) →
      p.current = (if e.getLsbD 12 then none else s.pi.current) →
      CompletesFrom { s with pi := p } (.cono 1 m) s [] s.flags s.returnPC) ∧
    ∀ word : Word, word = BitVec.ofNat 36 (s.pi.request.toNat * 2 ^ 18 + s.pi.held.toNat * 2 ^ 8
        + s.pi.turnedOn.toNat * 2 ^ 7 + s.pi.enabled.toNat) →
      (s.present (s.sec e) = true → Completes (.coni 1 m) s [(s.sec e, word)] s.flags s.returnPC) ∧
      Completes (.consz 1 m) s [] s.flags (if word &&& ((0#18) ++ e) = 0 then skipPC s else s.returnPC) ∧
      Completes (.conso 1 m) s [] s.flags (if word &&& ((0#18) ++ e) = 0 then s.returnPC else skipPC s)
end

