-- ==== Sys2Proof/Laws/State.lean ====
section
/-!
SUPPORT. One lemma per field of State per named update: a field that the update does not write is as before. Proofs
about runs read these and unfold no record update.
-/

namespace Sys2Proof.Machine

variable (s : State)

@[simp] theorem State.setAc_acblk (r : AcNum) (v : Word) : (s.setAc r v).acblk = s.acblk := rfl
@[simp] theorem State.setAc_mem (r : AcNum) (v : Word) : (s.setAc r v).mem = s.mem := rfl
@[simp] theorem State.setAc_pc (r : AcNum) (v : Word) : (s.setAc r v).pc = s.pc := rfl
@[simp] theorem State.setAc_flags (r : AcNum) (v : Word) : (s.setAc r v).flags = s.flags := rfl
@[simp] theorem State.setAc_pagingEn (r : AcNum) (v : Word) : (s.setAc r v).pagingEn = s.pagingEn := rfl
@[simp] theorem State.setAc_running (r : AcNum) (v : Word) : (s.setAc r v).running = s.running := rfl
@[simp] theorem State.setAc_pi (r : AcNum) (v : Word) : (s.setAc r v).pi = s.pi := rfl
@[simp] theorem State.setAc_devices (r : AcNum) (v : Word) : (s.setAc r v).devices = s.devices := rfl
@[simp] theorem State.setAc_icount (r : AcNum) (v : Word) : (s.setAc r v).icount = s.icount := rfl
@[simp] theorem State.setAc_exceptionCycle (r : AcNum) (v : Word) : (s.setAc r v).exceptionCycle = s.exceptionCycle := rfl
@[simp] theorem State.setAc_redispatch (r : AcNum) (v : Word) : (s.setAc r v).redispatch = s.redispatch := rfl
@[simp] theorem State.setAc_ioLog (r : AcNum) (v : Word) : (s.setAc r v).ioLog = s.ioLog := rfl
@[simp] theorem State.setAc_params (r : AcNum) (v : Word) : (s.setAc r v).params = s.params := rfl

@[simp] theorem State.setAcUnlessZero_acblk (r : AcNum) (v : Word) : (s.setAcUnlessZero r v).acblk = s.acblk := by unfold State.setAcUnlessZero; split <;> rfl
@[simp] theorem State.setAcUnlessZero_mem (r : AcNum) (v : Word) : (s.setAcUnlessZero r v).mem = s.mem := by unfold State.setAcUnlessZero; split <;> rfl
@[simp] theorem State.setAcUnlessZero_pc (r : AcNum) (v : Word) : (s.setAcUnlessZero r v).pc = s.pc := by unfold State.setAcUnlessZero; split <;> rfl
@[simp] theorem State.setAcUnlessZero_flags (r : AcNum) (v : Word) : (s.setAcUnlessZero r v).flags = s.flags := by unfold State.setAcUnlessZero; split <;> rfl
@[simp] theorem State.setAcUnlessZero_pagingEn (r : AcNum) (v : Word) : (s.setAcUnlessZero r v).pagingEn = s.pagingEn := by unfold State.setAcUnlessZero; split <;> rfl
@[simp] theorem State.setAcUnlessZero_running (r : AcNum) (v : Word) : (s.setAcUnlessZero r v).running = s.running := by unfold State.setAcUnlessZero; split <;> rfl
@[simp] theorem State.setAcUnlessZero_pi (r : AcNum) (v : Word) : (s.setAcUnlessZero r v).pi = s.pi := by unfold State.setAcUnlessZero; split <;> rfl
@[simp] theorem State.setAcUnlessZero_devices (r : AcNum) (v : Word) : (s.setAcUnlessZero r v).devices = s.devices := by unfold State.setAcUnlessZero; split <;> rfl
@[simp] theorem State.setAcUnlessZero_icount (r : AcNum) (v : Word) : (s.setAcUnlessZero r v).icount = s.icount := by unfold State.setAcUnlessZero; split <;> rfl
@[simp] theorem State.setAcUnlessZero_exceptionCycle (r : AcNum) (v : Word) : (s.setAcUnlessZero r v).exceptionCycle = s.exceptionCycle := by unfold State.setAcUnlessZero; split <;> rfl
@[simp] theorem State.setAcUnlessZero_redispatch (r : AcNum) (v : Word) : (s.setAcUnlessZero r v).redispatch = s.redispatch := by unfold State.setAcUnlessZero; split <;> rfl
@[simp] theorem State.setAcUnlessZero_ioLog (r : AcNum) (v : Word) : (s.setAcUnlessZero r v).ioLog = s.ioLog := by unfold State.setAcUnlessZero; split <;> rfl
@[simp] theorem State.setAcUnlessZero_params (r : AcNum) (v : Word) : (s.setAcUnlessZero r v).params = s.params := by unfold State.setAcUnlessZero; split <;> rfl

@[simp] theorem State.setAcPair_acblk (r : AcNum) (v : Word × Word) : (s.setAcPair r v).acblk = s.acblk := rfl
@[simp] theorem State.setAcPair_mem (r : AcNum) (v : Word × Word) : (s.setAcPair r v).mem = s.mem := rfl
@[simp] theorem State.setAcPair_pc (r : AcNum) (v : Word × Word) : (s.setAcPair r v).pc = s.pc := rfl
@[simp] theorem State.setAcPair_flags (r : AcNum) (v : Word × Word) : (s.setAcPair r v).flags = s.flags := rfl
@[simp] theorem State.setAcPair_pagingEn (r : AcNum) (v : Word × Word) : (s.setAcPair r v).pagingEn = s.pagingEn := rfl
@[simp] theorem State.setAcPair_running (r : AcNum) (v : Word × Word) : (s.setAcPair r v).running = s.running := rfl
@[simp] theorem State.setAcPair_pi (r : AcNum) (v : Word × Word) : (s.setAcPair r v).pi = s.pi := rfl
@[simp] theorem State.setAcPair_devices (r : AcNum) (v : Word × Word) : (s.setAcPair r v).devices = s.devices := rfl
@[simp] theorem State.setAcPair_icount (r : AcNum) (v : Word × Word) : (s.setAcPair r v).icount = s.icount := rfl
@[simp] theorem State.setAcPair_exceptionCycle (r : AcNum) (v : Word × Word) : (s.setAcPair r v).exceptionCycle = s.exceptionCycle := rfl
@[simp] theorem State.setAcPair_redispatch (r : AcNum) (v : Word × Word) : (s.setAcPair r v).redispatch = s.redispatch := rfl
@[simp] theorem State.setAcPair_ioLog (r : AcNum) (v : Word × Word) : (s.setAcPair r v).ioLog = s.ioLog := rfl
@[simp] theorem State.setAcPair_params (r : AcNum) (v : Word × Word) : (s.setAcPair r v).params = s.params := rfl

@[simp] theorem State.setAcQuad_acblk (r : AcNum) (v : Word × Word × Word × Word) : (s.setAcQuad r v).acblk = s.acblk := rfl
@[simp] theorem State.setAcQuad_mem (r : AcNum) (v : Word × Word × Word × Word) : (s.setAcQuad r v).mem = s.mem := rfl
@[simp] theorem State.setAcQuad_pc (r : AcNum) (v : Word × Word × Word × Word) : (s.setAcQuad r v).pc = s.pc := rfl
@[simp] theorem State.setAcQuad_flags (r : AcNum) (v : Word × Word × Word × Word) : (s.setAcQuad r v).flags = s.flags := rfl
@[simp] theorem State.setAcQuad_pagingEn (r : AcNum) (v : Word × Word × Word × Word) : (s.setAcQuad r v).pagingEn = s.pagingEn := rfl
@[simp] theorem State.setAcQuad_running (r : AcNum) (v : Word × Word × Word × Word) : (s.setAcQuad r v).running = s.running := rfl
@[simp] theorem State.setAcQuad_pi (r : AcNum) (v : Word × Word × Word × Word) : (s.setAcQuad r v).pi = s.pi := rfl
@[simp] theorem State.setAcQuad_devices (r : AcNum) (v : Word × Word × Word × Word) : (s.setAcQuad r v).devices = s.devices := rfl
@[simp] theorem State.setAcQuad_icount (r : AcNum) (v : Word × Word × Word × Word) : (s.setAcQuad r v).icount = s.icount := rfl
@[simp] theorem State.setAcQuad_exceptionCycle (r : AcNum) (v : Word × Word × Word × Word) : (s.setAcQuad r v).exceptionCycle = s.exceptionCycle := rfl
@[simp] theorem State.setAcQuad_redispatch (r : AcNum) (v : Word × Word × Word × Word) : (s.setAcQuad r v).redispatch = s.redispatch := rfl
@[simp] theorem State.setAcQuad_ioLog (r : AcNum) (v : Word × Word × Word × Word) : (s.setAcQuad r v).ioLog = s.ioLog := rfl
@[simp] theorem State.setAcQuad_params (r : AcNum) (v : Word × Word × Word × Word) : (s.setAcQuad r v).params = s.params := rfl

@[simp] theorem State.poke_acblk (a : VAddr) (v : Word) : (s.poke a v).acblk = s.acblk := by unfold State.poke; split <;> rfl
@[simp] theorem State.poke_pc (a : VAddr) (v : Word) : (s.poke a v).pc = s.pc := by unfold State.poke; split <;> rfl
@[simp] theorem State.poke_flags (a : VAddr) (v : Word) : (s.poke a v).flags = s.flags := by unfold State.poke; split <;> rfl
@[simp] theorem State.poke_pagingEn (a : VAddr) (v : Word) : (s.poke a v).pagingEn = s.pagingEn := by unfold State.poke; split <;> rfl
@[simp] theorem State.poke_running (a : VAddr) (v : Word) : (s.poke a v).running = s.running := by unfold State.poke; split <;> rfl
@[simp] theorem State.poke_pi (a : VAddr) (v : Word) : (s.poke a v).pi = s.pi := by unfold State.poke; split <;> rfl
@[simp] theorem State.poke_devices (a : VAddr) (v : Word) : (s.poke a v).devices = s.devices := by unfold State.poke; split <;> rfl
@[simp] theorem State.poke_icount (a : VAddr) (v : Word) : (s.poke a v).icount = s.icount := by unfold State.poke; split <;> rfl
@[simp] theorem State.poke_exceptionCycle (a : VAddr) (v : Word) : (s.poke a v).exceptionCycle = s.exceptionCycle := by unfold State.poke; split <;> rfl
@[simp] theorem State.poke_redispatch (a : VAddr) (v : Word) : (s.poke a v).redispatch = s.redispatch := by unfold State.poke; split <;> rfl
@[simp] theorem State.poke_ioLog (a : VAddr) (v : Word) : (s.poke a v).ioLog = s.ioLog := by unfold State.poke; split <;> rfl
@[simp] theorem State.poke_params (a : VAddr) (v : Word) : (s.poke a v).params = s.params := by unfold State.poke; split <;> rfl

@[simp] theorem State.setFlags_acs (k : BitVec 13) : (s.setFlags k).acs = s.acs := rfl
@[simp] theorem State.setFlags_acblk (k : BitVec 13) : (s.setFlags k).acblk = s.acblk := rfl
@[simp] theorem State.setFlags_mem (k : BitVec 13) : (s.setFlags k).mem = s.mem := rfl
@[simp] theorem State.setFlags_pc (k : BitVec 13) : (s.setFlags k).pc = s.pc := rfl
@[simp] theorem State.setFlags_pagingEn (k : BitVec 13) : (s.setFlags k).pagingEn = s.pagingEn := rfl
@[simp] theorem State.setFlags_running (k : BitVec 13) : (s.setFlags k).running = s.running := rfl
@[simp] theorem State.setFlags_pi (k : BitVec 13) : (s.setFlags k).pi = s.pi := rfl
@[simp] theorem State.setFlags_devices (k : BitVec 13) : (s.setFlags k).devices = s.devices := rfl
@[simp] theorem State.setFlags_icount (k : BitVec 13) : (s.setFlags k).icount = s.icount := rfl
@[simp] theorem State.setFlags_exceptionCycle (k : BitVec 13) : (s.setFlags k).exceptionCycle = s.exceptionCycle := rfl
@[simp] theorem State.setFlags_redispatch (k : BitVec 13) : (s.setFlags k).redispatch = s.redispatch := rfl
@[simp] theorem State.setFlags_ioLog (k : BitVec 13) : (s.setFlags k).ioLog = s.ioLog := rfl
@[simp] theorem State.setFlags_params (k : BitVec 13) : (s.setFlags k).params = s.params := rfl

@[simp] theorem State.clearFlags_acs (k : BitVec 13) : (s.clearFlags k).acs = s.acs := rfl
@[simp] theorem State.clearFlags_acblk (k : BitVec 13) : (s.clearFlags k).acblk = s.acblk := rfl
@[simp] theorem State.clearFlags_mem (k : BitVec 13) : (s.clearFlags k).mem = s.mem := rfl
@[simp] theorem State.clearFlags_pc (k : BitVec 13) : (s.clearFlags k).pc = s.pc := rfl
@[simp] theorem State.clearFlags_pagingEn (k : BitVec 13) : (s.clearFlags k).pagingEn = s.pagingEn := rfl
@[simp] theorem State.clearFlags_running (k : BitVec 13) : (s.clearFlags k).running = s.running := rfl
@[simp] theorem State.clearFlags_pi (k : BitVec 13) : (s.clearFlags k).pi = s.pi := rfl
@[simp] theorem State.clearFlags_devices (k : BitVec 13) : (s.clearFlags k).devices = s.devices := rfl
@[simp] theorem State.clearFlags_icount (k : BitVec 13) : (s.clearFlags k).icount = s.icount := rfl
@[simp] theorem State.clearFlags_exceptionCycle (k : BitVec 13) : (s.clearFlags k).exceptionCycle = s.exceptionCycle := rfl
@[simp] theorem State.clearFlags_redispatch (k : BitVec 13) : (s.clearFlags k).redispatch = s.redispatch := rfl
@[simp] theorem State.clearFlags_ioLog (k : BitVec 13) : (s.clearFlags k).ioLog = s.ioLog := rfl
@[simp] theorem State.clearFlags_params (k : BitVec 13) : (s.clearFlags k).params = s.params := rfl

@[simp] theorem State.setTrap2If_acs (c : Bool) : (s.setTrap2If c).acs = s.acs := by unfold State.setTrap2If; split <;> rfl
@[simp] theorem State.setTrap2If_acblk (c : Bool) : (s.setTrap2If c).acblk = s.acblk := by unfold State.setTrap2If; split <;> rfl
@[simp] theorem State.setTrap2If_mem (c : Bool) : (s.setTrap2If c).mem = s.mem := by unfold State.setTrap2If; split <;> rfl
@[simp] theorem State.setTrap2If_pc (c : Bool) : (s.setTrap2If c).pc = s.pc := by unfold State.setTrap2If; split <;> rfl
@[simp] theorem State.setTrap2If_pagingEn (c : Bool) : (s.setTrap2If c).pagingEn = s.pagingEn := by unfold State.setTrap2If; split <;> rfl
@[simp] theorem State.setTrap2If_running (c : Bool) : (s.setTrap2If c).running = s.running := by unfold State.setTrap2If; split <;> rfl
@[simp] theorem State.setTrap2If_pi (c : Bool) : (s.setTrap2If c).pi = s.pi := by unfold State.setTrap2If; split <;> rfl
@[simp] theorem State.setTrap2If_devices (c : Bool) : (s.setTrap2If c).devices = s.devices := by unfold State.setTrap2If; split <;> rfl
@[simp] theorem State.setTrap2If_icount (c : Bool) : (s.setTrap2If c).icount = s.icount := by unfold State.setTrap2If; split <;> rfl
@[simp] theorem State.setTrap2If_exceptionCycle (c : Bool) : (s.setTrap2If c).exceptionCycle = s.exceptionCycle := by unfold State.setTrap2If; split <;> rfl
@[simp] theorem State.setTrap2If_redispatch (c : Bool) : (s.setTrap2If c).redispatch = s.redispatch := by unfold State.setTrap2If; split <;> rfl
@[simp] theorem State.setTrap2If_ioLog (c : Bool) : (s.setTrap2If c).ioLog = s.ioLog := by unfold State.setTrap2If; split <;> rfl
@[simp] theorem State.setTrap2If_params (c : Bool) : (s.setTrap2If c).params = s.params := by unfold State.setTrap2If; split <;> rfl

@[simp] theorem State.restoreFlags_acs (w : Word) : (s.restoreFlags w).acs = s.acs := rfl
@[simp] theorem State.restoreFlags_acblk (w : Word) : (s.restoreFlags w).acblk = s.acblk := rfl
@[simp] theorem State.restoreFlags_mem (w : Word) : (s.restoreFlags w).mem = s.mem := rfl
@[simp] theorem State.restoreFlags_pc (w : Word) : (s.restoreFlags w).pc = s.pc := rfl
@[simp] theorem State.restoreFlags_pagingEn (w : Word) : (s.restoreFlags w).pagingEn = s.pagingEn := rfl
@[simp] theorem State.restoreFlags_running (w : Word) : (s.restoreFlags w).running = s.running := rfl
@[simp] theorem State.restoreFlags_pi (w : Word) : (s.restoreFlags w).pi = s.pi := rfl
@[simp] theorem State.restoreFlags_devices (w : Word) : (s.restoreFlags w).devices = s.devices := rfl
@[simp] theorem State.restoreFlags_icount (w : Word) : (s.restoreFlags w).icount = s.icount := rfl
@[simp] theorem State.restoreFlags_exceptionCycle (w : Word) : (s.restoreFlags w).exceptionCycle = s.exceptionCycle := rfl
@[simp] theorem State.restoreFlags_redispatch (w : Word) : (s.restoreFlags w).redispatch = s.redispatch := rfl
@[simp] theorem State.restoreFlags_ioLog (w : Word) : (s.restoreFlags w).ioLog = s.ioLog := rfl
@[simp] theorem State.restoreFlags_params (w : Word) : (s.restoreFlags w).params = s.params := rfl

@[simp] theorem State.normal_acs : (s.normal).acs = s.acs := rfl
@[simp] theorem State.normal_acblk : (s.normal).acblk = s.acblk := rfl
@[simp] theorem State.normal_mem : (s.normal).mem = s.mem := rfl
@[simp] theorem State.normal_flags : (s.normal).flags = s.flags := rfl
@[simp] theorem State.normal_pagingEn : (s.normal).pagingEn = s.pagingEn := rfl
@[simp] theorem State.normal_running : (s.normal).running = s.running := rfl
@[simp] theorem State.normal_pi : (s.normal).pi = s.pi := rfl
@[simp] theorem State.normal_devices : (s.normal).devices = s.devices := rfl
@[simp] theorem State.normal_icount : (s.normal).icount = s.icount := rfl
@[simp] theorem State.normal_exceptionCycle : (s.normal).exceptionCycle = s.exceptionCycle := rfl
@[simp] theorem State.normal_redispatch : (s.normal).redispatch = s.redispatch := rfl
@[simp] theorem State.normal_ioLog : (s.normal).ioLog = s.ioLog := rfl
@[simp] theorem State.normal_params : (s.normal).params = s.params := rfl

@[simp] theorem State.skipNext_acs : (s.skipNext).acs = s.acs := rfl
@[simp] theorem State.skipNext_acblk : (s.skipNext).acblk = s.acblk := rfl
@[simp] theorem State.skipNext_mem : (s.skipNext).mem = s.mem := rfl
@[simp] theorem State.skipNext_flags : (s.skipNext).flags = s.flags := rfl
@[simp] theorem State.skipNext_pagingEn : (s.skipNext).pagingEn = s.pagingEn := rfl
@[simp] theorem State.skipNext_running : (s.skipNext).running = s.running := rfl
@[simp] theorem State.skipNext_pi : (s.skipNext).pi = s.pi := rfl
@[simp] theorem State.skipNext_devices : (s.skipNext).devices = s.devices := rfl
@[simp] theorem State.skipNext_icount : (s.skipNext).icount = s.icount := rfl
@[simp] theorem State.skipNext_exceptionCycle : (s.skipNext).exceptionCycle = s.exceptionCycle := rfl
@[simp] theorem State.skipNext_redispatch : (s.skipNext).redispatch = s.redispatch := rfl
@[simp] theorem State.skipNext_ioLog : (s.skipNext).ioLog = s.ioLog := rfl
@[simp] theorem State.skipNext_params : (s.skipNext).params = s.params := rfl

@[simp] theorem State.jumpTo_acs (o : Offset) : (s.jumpTo o).acs = s.acs := rfl
@[simp] theorem State.jumpTo_acblk (o : Offset) : (s.jumpTo o).acblk = s.acblk := rfl
@[simp] theorem State.jumpTo_mem (o : Offset) : (s.jumpTo o).mem = s.mem := rfl
@[simp] theorem State.jumpTo_flags (o : Offset) : (s.jumpTo o).flags = s.flags := rfl
@[simp] theorem State.jumpTo_pagingEn (o : Offset) : (s.jumpTo o).pagingEn = s.pagingEn := rfl
@[simp] theorem State.jumpTo_running (o : Offset) : (s.jumpTo o).running = s.running := rfl
@[simp] theorem State.jumpTo_pi (o : Offset) : (s.jumpTo o).pi = s.pi := rfl
@[simp] theorem State.jumpTo_devices (o : Offset) : (s.jumpTo o).devices = s.devices := rfl
@[simp] theorem State.jumpTo_icount (o : Offset) : (s.jumpTo o).icount = s.icount := rfl
@[simp] theorem State.jumpTo_exceptionCycle (o : Offset) : (s.jumpTo o).exceptionCycle = s.exceptionCycle := rfl
@[simp] theorem State.jumpTo_redispatch (o : Offset) : (s.jumpTo o).redispatch = s.redispatch := rfl
@[simp] theorem State.jumpTo_ioLog (o : Offset) : (s.jumpTo o).ioLog = s.ioLog := rfl
@[simp] theorem State.jumpTo_params (o : Offset) : (s.jumpTo o).params = s.params := rfl

@[simp] theorem State.skipIf_acs (c : Bool) : (s.skipIf c).acs = s.acs := by unfold State.skipIf; split <;> rfl
@[simp] theorem State.skipIf_acblk (c : Bool) : (s.skipIf c).acblk = s.acblk := by unfold State.skipIf; split <;> rfl
@[simp] theorem State.skipIf_mem (c : Bool) : (s.skipIf c).mem = s.mem := by unfold State.skipIf; split <;> rfl
@[simp] theorem State.skipIf_flags (c : Bool) : (s.skipIf c).flags = s.flags := by unfold State.skipIf; split <;> rfl
@[simp] theorem State.skipIf_pagingEn (c : Bool) : (s.skipIf c).pagingEn = s.pagingEn := by unfold State.skipIf; split <;> rfl
@[simp] theorem State.skipIf_running (c : Bool) : (s.skipIf c).running = s.running := by unfold State.skipIf; split <;> rfl
@[simp] theorem State.skipIf_pi (c : Bool) : (s.skipIf c).pi = s.pi := by unfold State.skipIf; split <;> rfl
@[simp] theorem State.skipIf_devices (c : Bool) : (s.skipIf c).devices = s.devices := by unfold State.skipIf; split <;> rfl
@[simp] theorem State.skipIf_icount (c : Bool) : (s.skipIf c).icount = s.icount := by unfold State.skipIf; split <;> rfl
@[simp] theorem State.skipIf_exceptionCycle (c : Bool) : (s.skipIf c).exceptionCycle = s.exceptionCycle := by unfold State.skipIf; split <;> rfl
@[simp] theorem State.skipIf_redispatch (c : Bool) : (s.skipIf c).redispatch = s.redispatch := by unfold State.skipIf; split <;> rfl
@[simp] theorem State.skipIf_ioLog (c : Bool) : (s.skipIf c).ioLog = s.ioLog := by unfold State.skipIf; split <;> rfl
@[simp] theorem State.skipIf_params (c : Bool) : (s.skipIf c).params = s.params := by unfold State.skipIf; split <;> rfl

@[simp] theorem State.jumpIf_acs (c : Bool) (o : Offset) : (s.jumpIf c o).acs = s.acs := by unfold State.jumpIf; split <;> rfl
@[simp] theorem State.jumpIf_acblk (c : Bool) (o : Offset) : (s.jumpIf c o).acblk = s.acblk := by unfold State.jumpIf; split <;> rfl
@[simp] theorem State.jumpIf_mem (c : Bool) (o : Offset) : (s.jumpIf c o).mem = s.mem := by unfold State.jumpIf; split <;> rfl
@[simp] theorem State.jumpIf_flags (c : Bool) (o : Offset) : (s.jumpIf c o).flags = s.flags := by unfold State.jumpIf; split <;> rfl
@[simp] theorem State.jumpIf_pagingEn (c : Bool) (o : Offset) : (s.jumpIf c o).pagingEn = s.pagingEn := by unfold State.jumpIf; split <;> rfl
@[simp] theorem State.jumpIf_running (c : Bool) (o : Offset) : (s.jumpIf c o).running = s.running := by unfold State.jumpIf; split <;> rfl
@[simp] theorem State.jumpIf_pi (c : Bool) (o : Offset) : (s.jumpIf c o).pi = s.pi := by unfold State.jumpIf; split <;> rfl
@[simp] theorem State.jumpIf_devices (c : Bool) (o : Offset) : (s.jumpIf c o).devices = s.devices := by unfold State.jumpIf; split <;> rfl
@[simp] theorem State.jumpIf_icount (c : Bool) (o : Offset) : (s.jumpIf c o).icount = s.icount := by unfold State.jumpIf; split <;> rfl
@[simp] theorem State.jumpIf_exceptionCycle (c : Bool) (o : Offset) : (s.jumpIf c o).exceptionCycle = s.exceptionCycle := by unfold State.jumpIf; split <;> rfl
@[simp] theorem State.jumpIf_redispatch (c : Bool) (o : Offset) : (s.jumpIf c o).redispatch = s.redispatch := by unfold State.jumpIf; split <;> rfl
@[simp] theorem State.jumpIf_ioLog (c : Bool) (o : Offset) : (s.jumpIf c o).ioLog = s.ioLog := by unfold State.jumpIf; split <;> rfl
@[simp] theorem State.jumpIf_params (c : Bool) (o : Offset) : (s.jumpIf c o).params = s.params := by unfold State.jumpIf; split <;> rfl

@[simp] theorem State.redispatchWith_acs (w : Word) : (s.redispatchWith w).acs = s.acs := rfl
@[simp] theorem State.redispatchWith_acblk (w : Word) : (s.redispatchWith w).acblk = s.acblk := rfl
@[simp] theorem State.redispatchWith_mem (w : Word) : (s.redispatchWith w).mem = s.mem := rfl
@[simp] theorem State.redispatchWith_pc (w : Word) : (s.redispatchWith w).pc = s.pc := rfl
@[simp] theorem State.redispatchWith_flags (w : Word) : (s.redispatchWith w).flags = s.flags := rfl
@[simp] theorem State.redispatchWith_pagingEn (w : Word) : (s.redispatchWith w).pagingEn = s.pagingEn := rfl
@[simp] theorem State.redispatchWith_running (w : Word) : (s.redispatchWith w).running = s.running := rfl
@[simp] theorem State.redispatchWith_pi (w : Word) : (s.redispatchWith w).pi = s.pi := rfl
@[simp] theorem State.redispatchWith_devices (w : Word) : (s.redispatchWith w).devices = s.devices := rfl
@[simp] theorem State.redispatchWith_icount (w : Word) : (s.redispatchWith w).icount = s.icount := rfl
@[simp] theorem State.redispatchWith_exceptionCycle (w : Word) : (s.redispatchWith w).exceptionCycle = s.exceptionCycle := rfl
@[simp] theorem State.redispatchWith_ioLog (w : Word) : (s.redispatchWith w).ioLog = s.ioLog := rfl
@[simp] theorem State.redispatchWith_params (w : Word) : (s.redispatchWith w).params = s.params := rfl

@[simp] theorem State.piDismiss_acs : (s.piDismiss).acs = s.acs := by unfold State.piDismiss; split <;> rfl
@[simp] theorem State.piDismiss_acblk : (s.piDismiss).acblk = s.acblk := by unfold State.piDismiss; split <;> rfl
@[simp] theorem State.piDismiss_mem : (s.piDismiss).mem = s.mem := by unfold State.piDismiss; split <;> rfl
@[simp] theorem State.piDismiss_pc : (s.piDismiss).pc = s.pc := by unfold State.piDismiss; split <;> rfl
@[simp] theorem State.piDismiss_flags : (s.piDismiss).flags = s.flags := by unfold State.piDismiss; split <;> rfl
@[simp] theorem State.piDismiss_pagingEn : (s.piDismiss).pagingEn = s.pagingEn := by unfold State.piDismiss; split <;> rfl
@[simp] theorem State.piDismiss_running : (s.piDismiss).running = s.running := by unfold State.piDismiss; split <;> rfl
@[simp] theorem State.piDismiss_devices : (s.piDismiss).devices = s.devices := by unfold State.piDismiss; split <;> rfl
@[simp] theorem State.piDismiss_icount : (s.piDismiss).icount = s.icount := by unfold State.piDismiss; split <;> rfl
@[simp] theorem State.piDismiss_exceptionCycle : (s.piDismiss).exceptionCycle = s.exceptionCycle := by unfold State.piDismiss; split <;> rfl
@[simp] theorem State.piDismiss_redispatch : (s.piDismiss).redispatch = s.redispatch := by unfold State.piDismiss; split <;> rfl
@[simp] theorem State.piDismiss_ioLog : (s.piDismiss).ioLog = s.ioLog := by unfold State.piDismiss; split <;> rfl
@[simp] theorem State.piDismiss_params : (s.piDismiss).params = s.params := by unfold State.piDismiss; split <;> rfl

@[simp] theorem State.clearOnSave_acs : (s.clearOnSave).acs = s.acs := by unfold State.clearOnSave; dsimp only; split <;> rfl
@[simp] theorem State.clearOnSave_acblk : (s.clearOnSave).acblk = s.acblk := by unfold State.clearOnSave; dsimp only; split <;> rfl
@[simp] theorem State.clearOnSave_mem : (s.clearOnSave).mem = s.mem := by unfold State.clearOnSave; dsimp only; split <;> rfl
@[simp] theorem State.clearOnSave_pc : (s.clearOnSave).pc = s.pc := by unfold State.clearOnSave; dsimp only; split <;> rfl
@[simp] theorem State.clearOnSave_pagingEn : (s.clearOnSave).pagingEn = s.pagingEn := by unfold State.clearOnSave; dsimp only; split <;> rfl
@[simp] theorem State.clearOnSave_running : (s.clearOnSave).running = s.running := by unfold State.clearOnSave; dsimp only; split <;> rfl
@[simp] theorem State.clearOnSave_pi : (s.clearOnSave).pi = s.pi := by unfold State.clearOnSave; dsimp only; split <;> rfl
@[simp] theorem State.clearOnSave_devices : (s.clearOnSave).devices = s.devices := by unfold State.clearOnSave; dsimp only; split <;> rfl
@[simp] theorem State.clearOnSave_icount : (s.clearOnSave).icount = s.icount := by unfold State.clearOnSave; dsimp only; split <;> rfl
@[simp] theorem State.clearOnSave_exceptionCycle : (s.clearOnSave).exceptionCycle = s.exceptionCycle := by unfold State.clearOnSave; dsimp only; split <;> rfl
@[simp] theorem State.clearOnSave_redispatch : (s.clearOnSave).redispatch = s.redispatch := by unfold State.clearOnSave; dsimp only; split <;> rfl
@[simp] theorem State.clearOnSave_ioLog : (s.clearOnSave).ioLog = s.ioLog := by unfold State.clearOnSave; dsimp only; split <;> rfl
@[simp] theorem State.clearOnSave_params : (s.clearOnSave).params = s.params := by unfold State.clearOnSave; dsimp only; split <;> rfl

@[simp] theorem State.noDivideNext_acs : (s.noDivideNext).acs = s.acs := rfl
@[simp] theorem State.noDivideNext_acblk : (s.noDivideNext).acblk = s.acblk := rfl
@[simp] theorem State.noDivideNext_mem : (s.noDivideNext).mem = s.mem := rfl
@[simp] theorem State.noDivideNext_pagingEn : (s.noDivideNext).pagingEn = s.pagingEn := rfl
@[simp] theorem State.noDivideNext_running : (s.noDivideNext).running = s.running := rfl
@[simp] theorem State.noDivideNext_pi : (s.noDivideNext).pi = s.pi := rfl
@[simp] theorem State.noDivideNext_devices : (s.noDivideNext).devices = s.devices := rfl
@[simp] theorem State.noDivideNext_icount : (s.noDivideNext).icount = s.icount := rfl
@[simp] theorem State.noDivideNext_exceptionCycle : (s.noDivideNext).exceptionCycle = s.exceptionCycle := rfl
@[simp] theorem State.noDivideNext_redispatch : (s.noDivideNext).redispatch = s.redispatch := rfl
@[simp] theorem State.noDivideNext_ioLog : (s.noDivideNext).ioLog = s.ioLog := rfl
@[simp] theorem State.noDivideNext_params : (s.noDivideNext).params = s.params := rfl

@[simp] theorem State.modifyAc_acblk (k : Modify) (r : AcNum) (v : Word) : (s.modifyAc k r v).acblk = s.acblk := by unfold State.modifyAc; split <;> rfl
@[simp] theorem State.modifyAc_mem (k : Modify) (r : AcNum) (v : Word) : (s.modifyAc k r v).mem = s.mem := by unfold State.modifyAc; split <;> rfl
@[simp] theorem State.modifyAc_pc (k : Modify) (r : AcNum) (v : Word) : (s.modifyAc k r v).pc = s.pc := by unfold State.modifyAc; split <;> rfl
@[simp] theorem State.modifyAc_flags (k : Modify) (r : AcNum) (v : Word) : (s.modifyAc k r v).flags = s.flags := by unfold State.modifyAc; split <;> rfl
@[simp] theorem State.modifyAc_pagingEn (k : Modify) (r : AcNum) (v : Word) : (s.modifyAc k r v).pagingEn = s.pagingEn := by unfold State.modifyAc; split <;> rfl
@[simp] theorem State.modifyAc_running (k : Modify) (r : AcNum) (v : Word) : (s.modifyAc k r v).running = s.running := by unfold State.modifyAc; split <;> rfl
@[simp] theorem State.modifyAc_pi (k : Modify) (r : AcNum) (v : Word) : (s.modifyAc k r v).pi = s.pi := by unfold State.modifyAc; split <;> rfl
@[simp] theorem State.modifyAc_devices (k : Modify) (r : AcNum) (v : Word) : (s.modifyAc k r v).devices = s.devices := by unfold State.modifyAc; split <;> rfl
@[simp] theorem State.modifyAc_icount (k : Modify) (r : AcNum) (v : Word) : (s.modifyAc k r v).icount = s.icount := by unfold State.modifyAc; split <;> rfl
@[simp] theorem State.modifyAc_exceptionCycle (k : Modify) (r : AcNum) (v : Word) : (s.modifyAc k r v).exceptionCycle = s.exceptionCycle := by unfold State.modifyAc; split <;> rfl
@[simp] theorem State.modifyAc_redispatch (k : Modify) (r : AcNum) (v : Word) : (s.modifyAc k r v).redispatch = s.redispatch := by unfold State.modifyAc; split <;> rfl
@[simp] theorem State.modifyAc_ioLog (k : Modify) (r : AcNum) (v : Word) : (s.modifyAc k r v).ioLog = s.ioLog := by unfold State.modifyAc; split <;> rfl
@[simp] theorem State.modifyAc_params (k : Modify) (r : AcNum) (v : Word) : (s.modifyAc k r v).params = s.params := by unfold State.modifyAc; split <;> rfl

@[simp] theorem State.setPointer_acblk (r : AcNum) (k : PointerKind) (w w2 : Word) : (s.setPointer r k w w2).acblk = s.acblk := by unfold State.setPointer; split <;> rfl
@[simp] theorem State.setPointer_mem (r : AcNum) (k : PointerKind) (w w2 : Word) : (s.setPointer r k w w2).mem = s.mem := by unfold State.setPointer; split <;> rfl
@[simp] theorem State.setPointer_pc (r : AcNum) (k : PointerKind) (w w2 : Word) : (s.setPointer r k w w2).pc = s.pc := by unfold State.setPointer; split <;> rfl
@[simp] theorem State.setPointer_flags (r : AcNum) (k : PointerKind) (w w2 : Word) : (s.setPointer r k w w2).flags = s.flags := by unfold State.setPointer; split <;> rfl
@[simp] theorem State.setPointer_pagingEn (r : AcNum) (k : PointerKind) (w w2 : Word) : (s.setPointer r k w w2).pagingEn = s.pagingEn := by unfold State.setPointer; split <;> rfl
@[simp] theorem State.setPointer_running (r : AcNum) (k : PointerKind) (w w2 : Word) : (s.setPointer r k w w2).running = s.running := by unfold State.setPointer; split <;> rfl
@[simp] theorem State.setPointer_pi (r : AcNum) (k : PointerKind) (w w2 : Word) : (s.setPointer r k w w2).pi = s.pi := by unfold State.setPointer; split <;> rfl
@[simp] theorem State.setPointer_devices (r : AcNum) (k : PointerKind) (w w2 : Word) : (s.setPointer r k w w2).devices = s.devices := by unfold State.setPointer; split <;> rfl
@[simp] theorem State.setPointer_icount (r : AcNum) (k : PointerKind) (w w2 : Word) : (s.setPointer r k w w2).icount = s.icount := by unfold State.setPointer; split <;> rfl
@[simp] theorem State.setPointer_exceptionCycle (r : AcNum) (k : PointerKind) (w w2 : Word) : (s.setPointer r k w w2).exceptionCycle = s.exceptionCycle := by unfold State.setPointer; split <;> rfl
@[simp] theorem State.setPointer_redispatch (r : AcNum) (k : PointerKind) (w w2 : Word) : (s.setPointer r k w w2).redispatch = s.redispatch := by unfold State.setPointer; split <;> rfl
@[simp] theorem State.setPointer_ioLog (r : AcNum) (k : PointerKind) (w w2 : Word) : (s.setPointer r k w w2).ioLog = s.ioLog := by unfold State.setPointer; split <;> rfl
@[simp] theorem State.setPointer_params (r : AcNum) (k : PointerKind) (w w2 : Word) : (s.setPointer r k w w2).params = s.params := by unfold State.setPointer; split <;> rfl

@[simp] theorem State.deviceCall_acs (d : DevId) (ev : IoEvent) : (s.deviceCall d ev).acs = s.acs := rfl
@[simp] theorem State.deviceCall_acblk (d : DevId) (ev : IoEvent) : (s.deviceCall d ev).acblk = s.acblk := rfl
@[simp] theorem State.deviceCall_mem (d : DevId) (ev : IoEvent) : (s.deviceCall d ev).mem = s.mem := rfl
@[simp] theorem State.deviceCall_pc (d : DevId) (ev : IoEvent) : (s.deviceCall d ev).pc = s.pc := rfl
@[simp] theorem State.deviceCall_flags (d : DevId) (ev : IoEvent) : (s.deviceCall d ev).flags = s.flags := rfl
@[simp] theorem State.deviceCall_pagingEn (d : DevId) (ev : IoEvent) : (s.deviceCall d ev).pagingEn = s.pagingEn := rfl
@[simp] theorem State.deviceCall_running (d : DevId) (ev : IoEvent) : (s.deviceCall d ev).running = s.running := rfl
@[simp] theorem State.deviceCall_pi (d : DevId) (ev : IoEvent) : (s.deviceCall d ev).pi = s.pi := rfl
@[simp] theorem State.deviceCall_icount (d : DevId) (ev : IoEvent) : (s.deviceCall d ev).icount = s.icount := rfl
@[simp] theorem State.deviceCall_exceptionCycle (d : DevId) (ev : IoEvent) : (s.deviceCall d ev).exceptionCycle = s.exceptionCycle := rfl
@[simp] theorem State.deviceCall_redispatch (d : DevId) (ev : IoEvent) : (s.deviceCall d ev).redispatch = s.redispatch := rfl
@[simp] theorem State.deviceCall_params (d : DevId) (ev : IoEvent) : (s.deviceCall d ev).params = s.params := rfl

@[simp] theorem State.takeTrap_acs : (s.takeTrap).acs = s.acs := rfl
@[simp] theorem State.takeTrap_acblk : (s.takeTrap).acblk = s.acblk := rfl
@[simp] theorem State.takeTrap_mem : (s.takeTrap).mem = s.mem := rfl
@[simp] theorem State.takeTrap_pc : (s.takeTrap).pc = s.pc := rfl
@[simp] theorem State.takeTrap_pagingEn : (s.takeTrap).pagingEn = s.pagingEn := rfl
@[simp] theorem State.takeTrap_running : (s.takeTrap).running = s.running := rfl
@[simp] theorem State.takeTrap_pi : (s.takeTrap).pi = s.pi := rfl
@[simp] theorem State.takeTrap_devices : (s.takeTrap).devices = s.devices := rfl
@[simp] theorem State.takeTrap_icount : (s.takeTrap).icount = s.icount := rfl
@[simp] theorem State.takeTrap_redispatch : (s.takeTrap).redispatch = s.redispatch := rfl
@[simp] theorem State.takeTrap_ioLog : (s.takeTrap).ioLog = s.ioLog := rfl
@[simp] theorem State.takeTrap_params : (s.takeTrap).params = s.params := rfl

@[simp] theorem State.grant_acs (l : Level) : (s.grant l).acs = s.acs := rfl
@[simp] theorem State.grant_acblk (l : Level) : (s.grant l).acblk = s.acblk := rfl
@[simp] theorem State.grant_mem (l : Level) : (s.grant l).mem = s.mem := rfl
@[simp] theorem State.grant_pc (l : Level) : (s.grant l).pc = s.pc := rfl
@[simp] theorem State.grant_flags (l : Level) : (s.grant l).flags = s.flags := rfl
@[simp] theorem State.grant_pagingEn (l : Level) : (s.grant l).pagingEn = s.pagingEn := rfl
@[simp] theorem State.grant_running (l : Level) : (s.grant l).running = s.running := rfl
@[simp] theorem State.grant_devices (l : Level) : (s.grant l).devices = s.devices := rfl
@[simp] theorem State.grant_icount (l : Level) : (s.grant l).icount = s.icount := rfl
@[simp] theorem State.grant_redispatch (l : Level) : (s.grant l).redispatch = s.redispatch := rfl
@[simp] theorem State.grant_params (l : Level) : (s.grant l).params = s.params := rfl

@[simp] theorem State.endCycle_acs : (s.endCycle).acs = s.acs := rfl
@[simp] theorem State.endCycle_acblk : (s.endCycle).acblk = s.acblk := rfl
@[simp] theorem State.endCycle_mem : (s.endCycle).mem = s.mem := rfl
@[simp] theorem State.endCycle_pc : (s.endCycle).pc = s.pc := rfl
@[simp] theorem State.endCycle_flags : (s.endCycle).flags = s.flags := rfl
@[simp] theorem State.endCycle_pagingEn : (s.endCycle).pagingEn = s.pagingEn := rfl
@[simp] theorem State.endCycle_running : (s.endCycle).running = s.running := rfl
@[simp] theorem State.endCycle_pi : (s.endCycle).pi = s.pi := rfl
@[simp] theorem State.endCycle_devices : (s.endCycle).devices = s.devices := rfl
@[simp] theorem State.endCycle_redispatch : (s.endCycle).redispatch = s.redispatch := rfl
@[simp] theorem State.endCycle_ioLog : (s.endCycle).ioLog = s.ioLog := rfl
@[simp] theorem State.endCycle_params : (s.endCycle).params = s.params := rfl

@[simp] theorem State.setFlags_flags (k : BitVec 13) : (s.setFlags k).flags = s.flags ||| k := rfl
@[simp] theorem State.clearFlags_flags (k : BitVec 13) : (s.clearFlags k).flags = s.flags &&& ~~~k := rfl
@[simp] theorem State.normal_pc : s.normal.pc = s.returnPC := rfl
@[simp] theorem State.skipNext_pc : s.skipNext.pc = s.sec (offsetOf s.returnPC + 1) := rfl
@[simp] theorem State.jumpTo_pc (o : Offset) : (s.jumpTo o).pc = s.sec o := rfl
@[simp] theorem State.redispatchWith_redispatch (w : Word) : (s.redispatchWith w).redispatch = some w := rfl
@[simp] theorem State.endCycle_icount : s.endCycle.icount = s.icount + 1 := rfl
@[simp] theorem State.endCycle_exceptionCycle : s.endCycle.exceptionCycle = none := rfl
@[simp] theorem State.takeTrap_exceptionCycle : s.takeTrap.exceptionCycle = some ⟨.trap, s.pc⟩ := rfl
@[simp] theorem State.grant_exceptionCycle (l : Level) : (s.grant l).exceptionCycle = some ⟨.interrupt, s.pc⟩ := rfl
@[simp] theorem State.setFlags_zero : s.setFlags 0 = s := by simp [State.setFlags]

@[simp] theorem State.setAc_present (r : AcNum) (v : Word) (b : VAddr) : (s.setAc r v).present b = s.present b := rfl
@[simp] theorem State.setAc_sec (r : AcNum) (v : Word) (o : Offset) : (s.setAc r v).sec o = s.sec o := rfl
@[simp] theorem State.setAc_returnPC (r : AcNum) (v : Word) : (s.setAc r v).returnPC = s.returnPC := rfl
@[simp] theorem State.setAc_flag (r : AcNum) (v : Word) (f : Flag) : (s.setAc r v).flag f = s.flag f := rfl
@[simp] theorem State.setAc_ioLegal (r : AcNum) (v : Word) : (s.setAc r v).ioLegal = s.ioLegal := rfl
@[simp] theorem State.setAcUnlessZero_present (r : AcNum) (v : Word) (b : VAddr) : (s.setAcUnlessZero r v).present b = s.present b := by unfold State.setAcUnlessZero; split <;> rfl
@[simp] theorem State.setAcUnlessZero_sec (r : AcNum) (v : Word) (o : Offset) : (s.setAcUnlessZero r v).sec o = s.sec o := by unfold State.setAcUnlessZero; split <;> rfl
@[simp] theorem State.setAcUnlessZero_returnPC (r : AcNum) (v : Word) : (s.setAcUnlessZero r v).returnPC = s.returnPC := by unfold State.setAcUnlessZero; split <;> rfl
@[simp] theorem State.setAcUnlessZero_flag (r : AcNum) (v : Word) (f : Flag) : (s.setAcUnlessZero r v).flag f = s.flag f := by unfold State.setAcUnlessZero; split <;> rfl
@[simp] theorem State.setAcUnlessZero_ioLegal (r : AcNum) (v : Word) : (s.setAcUnlessZero r v).ioLegal = s.ioLegal := by unfold State.setAcUnlessZero; split <;> rfl
@[simp] theorem State.setAcPair_present (r : AcNum) (v : Word × Word) (b : VAddr) : (s.setAcPair r v).present b = s.present b := rfl
@[simp] theorem State.setAcPair_sec (r : AcNum) (v : Word × Word) (o : Offset) : (s.setAcPair r v).sec o = s.sec o := rfl
@[simp] theorem State.setAcPair_returnPC (r : AcNum) (v : Word × Word) : (s.setAcPair r v).returnPC = s.returnPC := rfl
@[simp] theorem State.setAcPair_flag (r : AcNum) (v : Word × Word) (f : Flag) : (s.setAcPair r v).flag f = s.flag f := rfl
@[simp] theorem State.setAcPair_ioLegal (r : AcNum) (v : Word × Word) : (s.setAcPair r v).ioLegal = s.ioLegal := rfl
@[simp] theorem State.setAcQuad_present (r : AcNum) (v : Word × Word × Word × Word) (b : VAddr) : (s.setAcQuad r v).present b = s.present b := rfl
@[simp] theorem State.setAcQuad_sec (r : AcNum) (v : Word × Word × Word × Word) (o : Offset) : (s.setAcQuad r v).sec o = s.sec o := rfl
@[simp] theorem State.setAcQuad_returnPC (r : AcNum) (v : Word × Word × Word × Word) : (s.setAcQuad r v).returnPC = s.returnPC := rfl
@[simp] theorem State.setAcQuad_flag (r : AcNum) (v : Word × Word × Word × Word) (f : Flag) : (s.setAcQuad r v).flag f = s.flag f := rfl
@[simp] theorem State.setAcQuad_ioLegal (r : AcNum) (v : Word × Word × Word × Word) : (s.setAcQuad r v).ioLegal = s.ioLegal := rfl
@[simp] theorem State.poke_present (a : VAddr) (v : Word) (b : VAddr) : (s.poke a v).present b = s.present b := by unfold State.poke; split <;> rfl
@[simp] theorem State.poke_sec (a : VAddr) (v : Word) (o : Offset) : (s.poke a v).sec o = s.sec o := by unfold State.poke; split <;> rfl
@[simp] theorem State.poke_returnPC (a : VAddr) (v : Word) : (s.poke a v).returnPC = s.returnPC := by unfold State.poke; split <;> rfl
@[simp] theorem State.poke_flag (a : VAddr) (v : Word) (f : Flag) : (s.poke a v).flag f = s.flag f := by unfold State.poke; split <;> rfl
@[simp] theorem State.poke_ioLegal (a : VAddr) (v : Word) : (s.poke a v).ioLegal = s.ioLegal := by unfold State.poke; split <;> rfl
@[simp] theorem State.setFlags_present (k : BitVec 13) (b : VAddr) : (s.setFlags k).present b = s.present b := rfl
@[simp] theorem State.setFlags_sec (k : BitVec 13) (o : Offset) : (s.setFlags k).sec o = s.sec o := rfl
@[simp] theorem State.setFlags_returnPC (k : BitVec 13) : (s.setFlags k).returnPC = s.returnPC := rfl
@[simp] theorem State.setFlags_ac (k : BitVec 13) (q : AcNum) : (s.setFlags k).ac q = s.ac q := rfl
@[simp] theorem State.setFlags_peek (k : BitVec 13) (b : VAddr) : (s.setFlags k).peek b = s.peek b := rfl
@[simp] theorem State.clearFlags_present (k : BitVec 13) (b : VAddr) : (s.clearFlags k).present b = s.present b := rfl
@[simp] theorem State.clearFlags_sec (k : BitVec 13) (o : Offset) : (s.clearFlags k).sec o = s.sec o := rfl
@[simp] theorem State.clearFlags_returnPC (k : BitVec 13) : (s.clearFlags k).returnPC = s.returnPC := rfl
@[simp] theorem State.clearFlags_ac (k : BitVec 13) (q : AcNum) : (s.clearFlags k).ac q = s.ac q := rfl
@[simp] theorem State.clearFlags_peek (k : BitVec 13) (b : VAddr) : (s.clearFlags k).peek b = s.peek b := rfl
@[simp] theorem State.setTrap2If_present (c : Bool) (b : VAddr) : (s.setTrap2If c).present b = s.present b := by unfold State.setTrap2If; split <;> rfl
@[simp] theorem State.setTrap2If_sec (c : Bool) (o : Offset) : (s.setTrap2If c).sec o = s.sec o := by unfold State.setTrap2If; split <;> rfl
@[simp] theorem State.setTrap2If_returnPC (c : Bool) : (s.setTrap2If c).returnPC = s.returnPC := by unfold State.setTrap2If; split <;> rfl
@[simp] theorem State.setTrap2If_ac (c : Bool) (q : AcNum) : (s.setTrap2If c).ac q = s.ac q := by unfold State.setTrap2If; split <;> rfl
@[simp] theorem State.setTrap2If_peek (c : Bool) (b : VAddr) : (s.setTrap2If c).peek b = s.peek b := by unfold State.setTrap2If; split <;> rfl
@[simp] theorem State.restoreFlags_present (w : Word) (b : VAddr) : (s.restoreFlags w).present b = s.present b := rfl
@[simp] theorem State.restoreFlags_sec (w : Word) (o : Offset) : (s.restoreFlags w).sec o = s.sec o := rfl
@[simp] theorem State.restoreFlags_returnPC (w : Word) : (s.restoreFlags w).returnPC = s.returnPC := rfl
@[simp] theorem State.restoreFlags_ac (w : Word) (q : AcNum) : (s.restoreFlags w).ac q = s.ac q := rfl
@[simp] theorem State.restoreFlags_peek (w : Word) (b : VAddr) : (s.restoreFlags w).peek b = s.peek b := rfl
@[simp] theorem State.normal_present (b : VAddr) : (s.normal).present b = s.present b := rfl
@[simp] theorem State.normal_ac (q : AcNum) : (s.normal).ac q = s.ac q := rfl
@[simp] theorem State.normal_peek (b : VAddr) : (s.normal).peek b = s.peek b := rfl
@[simp] theorem State.normal_flag (f : Flag) : (s.normal).flag f = s.flag f := rfl
@[simp] theorem State.normal_ioLegal : (s.normal).ioLegal = s.ioLegal := rfl
@[simp] theorem State.skipNext_present (b : VAddr) : (s.skipNext).present b = s.present b := rfl
@[simp] theorem State.skipNext_ac (q : AcNum) : (s.skipNext).ac q = s.ac q := rfl
@[simp] theorem State.skipNext_peek (b : VAddr) : (s.skipNext).peek b = s.peek b := rfl
@[simp] theorem State.skipNext_flag (f : Flag) : (s.skipNext).flag f = s.flag f := rfl
@[simp] theorem State.skipNext_ioLegal : (s.skipNext).ioLegal = s.ioLegal := rfl
@[simp] theorem State.jumpTo_present (o : Offset) (b : VAddr) : (s.jumpTo o).present b = s.present b := rfl
@[simp] theorem State.jumpTo_ac (o : Offset) (q : AcNum) : (s.jumpTo o).ac q = s.ac q := rfl
@[simp] theorem State.jumpTo_peek (o : Offset) (b : VAddr) : (s.jumpTo o).peek b = s.peek b := rfl
@[simp] theorem State.jumpTo_flag (o : Offset) (f : Flag) : (s.jumpTo o).flag f = s.flag f := rfl
@[simp] theorem State.jumpTo_ioLegal (o : Offset) : (s.jumpTo o).ioLegal = s.ioLegal := rfl
@[simp] theorem State.skipIf_present (c : Bool) (b : VAddr) : (s.skipIf c).present b = s.present b := by unfold State.skipIf; split <;> rfl
@[simp] theorem State.skipIf_ac (c : Bool) (q : AcNum) : (s.skipIf c).ac q = s.ac q := by unfold State.skipIf; split <;> rfl
@[simp] theorem State.skipIf_peek (c : Bool) (b : VAddr) : (s.skipIf c).peek b = s.peek b := by unfold State.skipIf; split <;> rfl
@[simp] theorem State.skipIf_flag (c : Bool) (f : Flag) : (s.skipIf c).flag f = s.flag f := by unfold State.skipIf; split <;> rfl
@[simp] theorem State.skipIf_ioLegal (c : Bool) : (s.skipIf c).ioLegal = s.ioLegal := by unfold State.skipIf; split <;> rfl
@[simp] theorem State.jumpIf_present (c : Bool) (o : Offset) (b : VAddr) : (s.jumpIf c o).present b = s.present b := by unfold State.jumpIf; split <;> rfl
@[simp] theorem State.jumpIf_ac (c : Bool) (o : Offset) (q : AcNum) : (s.jumpIf c o).ac q = s.ac q := by unfold State.jumpIf; split <;> rfl
@[simp] theorem State.jumpIf_peek (c : Bool) (o : Offset) (b : VAddr) : (s.jumpIf c o).peek b = s.peek b := by unfold State.jumpIf; split <;> rfl
@[simp] theorem State.jumpIf_flag (c : Bool) (o : Offset) (f : Flag) : (s.jumpIf c o).flag f = s.flag f := by unfold State.jumpIf; split <;> rfl
@[simp] theorem State.jumpIf_ioLegal (c : Bool) (o : Offset) : (s.jumpIf c o).ioLegal = s.ioLegal := by unfold State.jumpIf; split <;> rfl
@[simp] theorem State.redispatchWith_present (w : Word) (b : VAddr) : (s.redispatchWith w).present b = s.present b := rfl
@[simp] theorem State.redispatchWith_sec (w : Word) (o : Offset) : (s.redispatchWith w).sec o = s.sec o := rfl
@[simp] theorem State.redispatchWith_returnPC (w : Word) : (s.redispatchWith w).returnPC = s.returnPC := rfl
@[simp] theorem State.redispatchWith_ac (w : Word) (q : AcNum) : (s.redispatchWith w).ac q = s.ac q := rfl
@[simp] theorem State.redispatchWith_peek (w : Word) (b : VAddr) : (s.redispatchWith w).peek b = s.peek b := rfl
@[simp] theorem State.redispatchWith_flag (w : Word) (f : Flag) : (s.redispatchWith w).flag f = s.flag f := rfl
@[simp] theorem State.redispatchWith_ioLegal (w : Word) : (s.redispatchWith w).ioLegal = s.ioLegal := rfl
@[simp] theorem State.piDismiss_present (b : VAddr) : (s.piDismiss).present b = s.present b := by unfold State.piDismiss; split <;> rfl
@[simp] theorem State.piDismiss_sec (o : Offset) : (s.piDismiss).sec o = s.sec o := by unfold State.piDismiss; split <;> rfl
@[simp] theorem State.piDismiss_returnPC : (s.piDismiss).returnPC = s.returnPC := by unfold State.piDismiss; split <;> rfl
@[simp] theorem State.piDismiss_ac (q : AcNum) : (s.piDismiss).ac q = s.ac q := by unfold State.piDismiss; split <;> rfl
@[simp] theorem State.piDismiss_peek (b : VAddr) : (s.piDismiss).peek b = s.peek b := by unfold State.piDismiss; split <;> rfl
@[simp] theorem State.piDismiss_flag (f : Flag) : (s.piDismiss).flag f = s.flag f := by unfold State.piDismiss; split <;> rfl
@[simp] theorem State.piDismiss_ioLegal : (s.piDismiss).ioLegal = s.ioLegal := by unfold State.piDismiss; split <;> rfl
@[simp] theorem State.clearOnSave_present (b : VAddr) : (s.clearOnSave).present b = s.present b := by unfold State.clearOnSave; dsimp only; split <;> rfl
@[simp] theorem State.clearOnSave_sec (o : Offset) : (s.clearOnSave).sec o = s.sec o := by unfold State.clearOnSave; dsimp only; split <;> rfl
@[simp] theorem State.clearOnSave_returnPC : (s.clearOnSave).returnPC = s.returnPC := by unfold State.clearOnSave; dsimp only; split <;> rfl
@[simp] theorem State.clearOnSave_ac (q : AcNum) : (s.clearOnSave).ac q = s.ac q := by unfold State.clearOnSave; dsimp only; split <;> rfl
@[simp] theorem State.clearOnSave_peek (b : VAddr) : (s.clearOnSave).peek b = s.peek b := by unfold State.clearOnSave; dsimp only; split <;> rfl
@[simp] theorem State.noDivideNext_present (b : VAddr) : (s.noDivideNext).present b = s.present b := rfl
@[simp] theorem State.noDivideNext_ac (q : AcNum) : (s.noDivideNext).ac q = s.ac q := rfl
@[simp] theorem State.noDivideNext_peek (b : VAddr) : (s.noDivideNext).peek b = s.peek b := rfl
@[simp] theorem State.modifyAc_present (k : Modify) (r : AcNum) (v : Word) (b : VAddr) : (s.modifyAc k r v).present b = s.present b := by unfold State.modifyAc; split <;> rfl
@[simp] theorem State.modifyAc_sec (k : Modify) (r : AcNum) (v : Word) (o : Offset) : (s.modifyAc k r v).sec o = s.sec o := by unfold State.modifyAc; split <;> rfl
@[simp] theorem State.modifyAc_returnPC (k : Modify) (r : AcNum) (v : Word) : (s.modifyAc k r v).returnPC = s.returnPC := by unfold State.modifyAc; split <;> rfl
@[simp] theorem State.modifyAc_flag (k : Modify) (r : AcNum) (v : Word) (f : Flag) : (s.modifyAc k r v).flag f = s.flag f := by unfold State.modifyAc; split <;> rfl
@[simp] theorem State.modifyAc_ioLegal (k : Modify) (r : AcNum) (v : Word) : (s.modifyAc k r v).ioLegal = s.ioLegal := by unfold State.modifyAc; split <;> rfl
@[simp] theorem State.setPointer_present (r : AcNum) (k : PointerKind) (w w2 : Word) (b : VAddr) : (s.setPointer r k w w2).present b = s.present b := by unfold State.setPointer; split <;> rfl
@[simp] theorem State.setPointer_sec (r : AcNum) (k : PointerKind) (w w2 : Word) (o : Offset) : (s.setPointer r k w w2).sec o = s.sec o := by unfold State.setPointer; split <;> rfl
@[simp] theorem State.setPointer_returnPC (r : AcNum) (k : PointerKind) (w w2 : Word) : (s.setPointer r k w w2).returnPC = s.returnPC := by unfold State.setPointer; split <;> rfl
@[simp] theorem State.setPointer_flag (r : AcNum) (k : PointerKind) (w w2 : Word) (f : Flag) : (s.setPointer r k w w2).flag f = s.flag f := by unfold State.setPointer; split <;> rfl
@[simp] theorem State.setPointer_ioLegal (r : AcNum) (k : PointerKind) (w w2 : Word) : (s.setPointer r k w w2).ioLegal = s.ioLegal := by unfold State.setPointer; split <;> rfl
@[simp] theorem State.deviceCall_present (d : DevId) (ev : IoEvent) (b : VAddr) : (s.deviceCall d ev).present b = s.present b := rfl
@[simp] theorem State.deviceCall_sec (d : DevId) (ev : IoEvent) (o : Offset) : (s.deviceCall d ev).sec o = s.sec o := rfl
@[simp] theorem State.deviceCall_returnPC (d : DevId) (ev : IoEvent) : (s.deviceCall d ev).returnPC = s.returnPC := rfl
@[simp] theorem State.deviceCall_ac (d : DevId) (ev : IoEvent) (q : AcNum) : (s.deviceCall d ev).ac q = s.ac q := rfl
@[simp] theorem State.deviceCall_peek (d : DevId) (ev : IoEvent) (b : VAddr) : (s.deviceCall d ev).peek b = s.peek b := rfl
@[simp] theorem State.deviceCall_flag (d : DevId) (ev : IoEvent) (f : Flag) : (s.deviceCall d ev).flag f = s.flag f := rfl
@[simp] theorem State.deviceCall_ioLegal (d : DevId) (ev : IoEvent) : (s.deviceCall d ev).ioLegal = s.ioLegal := rfl

end Sys2Proof.Machine
end

