-- ==== Sys2Proof/Laws/Memory.lean ====
section
/-!
SUPPORT. Accumulators and memory: reading back what was written, the frame of a write, and the canonical form.
-/

namespace Sys2Proof.Machine

-- Accumulators

theorem bankIndex_inj {b b' : BitVec 3} {r r' : AcNum} (h : (bankIndex b r).val = (bankIndex b' r').val) :
    b = b' ∧ r = r' := by
  simp only [bankIndex] at h
  constructor <;> apply BitVec.eq_of_toNat_eq <;> omega

theorem bankWord_setAc (s : State) (q : AcNum) (v : Word) (b : BitVec 3) (r : AcNum) :
    bankWord (s.setAc q v) b r = if b = s.acblk ∧ r = q then v else bankWord s b r := by
  unfold bankWord State.setAc
  simp only [Vector.getElem_set]
  by_cases h : (bankIndex s.acblk q).val = (bankIndex b r).val
  · obtain ⟨h1, h2⟩ := bankIndex_inj h
    simp [h1, h2]
  · have : ¬ (b = s.acblk ∧ r = q) := fun ⟨h1, h2⟩ => h (by rw [h1, h2])
    rw [if_neg h, if_neg this]

theorem ac_eq_bankWord (s : State) (r : AcNum) : s.ac r = bankWord s s.acblk r := rfl

theorem ac_setAc (s : State) (q : AcNum) (v : Word) (r : AcNum) :
    (s.setAc q v).ac r = if r = q then v else s.ac r := by
  have := bankWord_setAc s q v s.acblk r
  simpa [ac_eq_bankWord] using this

@[simp] theorem ac_setAc_self (s : State) (q : AcNum) (v : Word) : (s.setAc q v).ac q = v := by simp [ac_setAc]

-- The memory list

theorem lookupWord_of_risingFrom {m : List (Nat × Word)} {lo a : Nat} (h : Memory.risingFrom lo m = true) (ha : a < lo) :
    lookupWord m a = unlistedWord := by
  induction m generalizing lo with
  | nil => rfl
  | cons p rest ih =>
    obtain ⟨b, w⟩ := p
    simp only [Memory.risingFrom, Bool.and_eq_true, decide_eq_true_eq] at h
    have hne : a ≠ b := by omega
    simp only [lookupWord, if_neg hne]
    exact ih h.2 (by omega)

theorem risingFrom_mono {m : List (Nat × Word)} {lo lo' : Nat} (h : Memory.risingFrom lo m = true) (hl : lo' ≤ lo) :
    Memory.risingFrom lo' m = true := by
  cases m with
  | nil => rfl
  | cons p rest =>
    obtain ⟨b, w⟩ := p
    simp only [Memory.risingFrom, Bool.and_eq_true, decide_eq_true_eq] at h ⊢
    exact ⟨⟨by omega, h.1.2⟩, h.2⟩

theorem risingFrom_filter {m : List (Nat × Word)} {lo : Nat} (f : Nat × Word → Bool)
    (h : Memory.risingFrom lo m = true) : Memory.risingFrom lo (m.filter f) = true := by
  induction m generalizing lo with
  | nil => rfl
  | cons p rest ih =>
    obtain ⟨b, w⟩ := p
    simp only [Memory.risingFrom, Bool.and_eq_true, decide_eq_true_eq] at h
    rw [List.filter_cons]
    split
    · simp only [Memory.risingFrom, Bool.and_eq_true, decide_eq_true_eq]
      exact ⟨h.1, ih h.2⟩
    · exact risingFrom_mono (ih h.2) (by omega)

theorem risingFrom_insertWord {m : List (Nat × Word)} {lo a : Nat} {v : Word} (h : Memory.risingFrom lo m = true)
    (ha : lo ≤ a) (hm : ∀ p ∈ m, p.1 ≠ a) (hv : v ≠ unlistedWord) :
    Memory.risingFrom lo (insertWord m a v) = true := by
  induction m generalizing lo with
  | nil => simp [insertWord, Memory.risingFrom, ha, hv]
  | cons p rest ih =>
    obtain ⟨b, w⟩ := p
    have hb : b ≠ a := hm (b, w) (by simp)
    simp only [Memory.risingFrom, Bool.and_eq_true, decide_eq_true_eq] at h
    unfold insertWord
    split
    · simp only [Memory.risingFrom, Bool.and_eq_true, decide_eq_true_eq, bne_iff_ne, ne_eq]
      exact ⟨⟨ha, hv⟩, ⟨by omega, by simpa using h.1.2⟩, h.2⟩
    · simp only [Memory.risingFrom, Bool.and_eq_true, decide_eq_true_eq]
      exact ⟨h.1, ih h.2 (by omega) (fun p hp => hm p (by simp [hp]))⟩

/-- A write keeps the canonical form. -/
theorem wf_storeWord {m : List (Nat × Word)} {a : Nat} (v : Word) (h : Memory.wf m = true) (ha : 16 ≤ a) :
    Memory.wf (storeWord m a v) = true := by
  unfold storeWord
  dsimp only
  split
  · exact risingFrom_filter _ h
  · exact risingFrom_insertWord (risingFrom_filter _ h) ha (by simp) ‹_›

theorem lookupWord_filter_self (m : List (Nat × Word)) (a : Nat) :
    lookupWord (m.filter (fun p => p.1 != a)) a = unlistedWord := by
  induction m with
  | nil => rfl
  | cons p rest ih =>
    obtain ⟨b, w⟩ := p
    rw [List.filter_cons]
    split
    · rename_i h
      have : a ≠ b := fun hab => by simp [hab] at h
      simp only [lookupWord, if_neg this, ih]
    · exact ih

theorem lookupWord_filter_ne (m : List (Nat × Word)) {a b : Nat} (hab : b ≠ a) :
    lookupWord (m.filter (fun p => p.1 != a)) b = lookupWord m b := by
  induction m with
  | nil => rfl
  | cons p rest ih =>
    obtain ⟨c, w⟩ := p
    rw [List.filter_cons]
    split
    · simp only [lookupWord, ih]
    · rename_i h
      have hc : c = a := by simpa using h
      have : b ≠ c := by rw [hc]; exact hab
      simp only [lookupWord, if_neg this, ih]

theorem lookupWord_insertWord_self {m : List (Nat × Word)} {a : Nat} (v : Word) (hm : ∀ p ∈ m, p.1 ≠ a) :
    lookupWord (insertWord m a v) a = v := by
  induction m with
  | nil => simp [insertWord, lookupWord]
  | cons p rest ih =>
    obtain ⟨b, w⟩ := p
    have hb : a ≠ b := fun h => hm (b, w) (by simp) h.symm
    unfold insertWord
    split
    · simp [lookupWord]
    · simp only [lookupWord, if_neg hb]
      exact ih (fun p hp => hm p (by simp [hp]))

theorem lookupWord_insertWord_ne (m : List (Nat × Word)) {a b : Nat} (v : Word) (hab : b ≠ a) :
    lookupWord (insertWord m a v) b = lookupWord m b := by
  induction m with
  | nil => simp [insertWord, lookupWord, hab]
  | cons p rest ih =>
    obtain ⟨c, w⟩ := p
    unfold insertWord
    split
    · simp [lookupWord, hab]
    · simp only [lookupWord, ih]

/-- Reading a memory list after a word was stored. -/
theorem lookupWord_storeWord (m : List (Nat × Word)) (a : Nat) (v : Word) (b : Nat) :
    lookupWord (storeWord m a v) b = if b = a then v else lookupWord m b := by
  unfold storeWord
  dsimp only
  split
  · rename_i hv
    split
    · rename_i hab
      rw [hab, lookupWord_filter_self, hv]
    · exact lookupWord_filter_ne m ‹_›
  · split
    · rename_i hab
      rw [hab]
      exact lookupWord_insertWord_self v (by simp)
    · rename_i hab
      rw [lookupWord_insertWord_ne _ _ hab, lookupWord_filter_ne m hab]

theorem mem_insertWord {m : List (Nat × Word)} {a : Nat} {v : Word} {p : Nat × Word} (h : p ∈ insertWord m a v) :
    p = (a, v) ∨ p ∈ m := by
  induction m with
  | nil => simpa [insertWord] using h
  | cons q rest ih =>
    obtain ⟨c, w⟩ := q
    unfold insertWord at h
    split at h
    · simpa using h
    · rcases List.mem_cons.mp h with h | h
      · simp [h]
      · rcases ih h with h | h <;> simp [h]

theorem mem_storeWord {m : List (Nat × Word)} {a : Nat} {v : Word} {p : Nat × Word} (h : p ∈ storeWord m a v) :
    p = (a, v) ∨ p ∈ m := by
  unfold storeWord at h
  dsimp only at h
  split at h
  · exact .inr (List.mem_filter.mp h).1
  · rcases mem_insertWord h with h | h
    · exact .inl h
    · exact .inr (List.mem_filter.mp h).1

-- Storage: accumulators and memory together

@[simp] theorem isAcAddr_acAddr (r : AcNum) : isAcAddr (acAddr r) = true := by
  simp only [isAcAddr, acAddr, BitVec.toNat_setWidth, decide_eq_true_eq]
  omega

@[simp] theorem extract_acAddr (r : AcNum) : (acAddr r).extractLsb' 0 4 = r := by
  apply BitVec.eq_of_toNat_eq
  simp only [acAddr, BitVec.extractLsb'_toNat, BitVec.toNat_setWidth, Nat.shiftRight_zero]
  omega

theorem eq_acAddr_of_isAcAddr {a : VAddr} (h : isAcAddr a = true) : a = acAddr (a.extractLsb' 0 4) := by
  simp only [isAcAddr, decide_eq_true_eq] at h
  apply BitVec.eq_of_toNat_eq
  simp only [acAddr, BitVec.extractLsb'_toNat, BitVec.toNat_setWidth, Nat.shiftRight_zero]
  omega

@[simp] theorem peek_acAddr (s : State) (r : AcNum) : s.peek (acAddr r) = s.ac r := by simp [State.peek]

theorem setAc_eq_poke (s : State) (r : AcNum) (v : Word) : s.setAc r v = s.poke (acAddr r) v := by
  simp [State.poke]

/-- Reading an address after a word was stored: the word at that address, the old contents elsewhere. -/
theorem peek_poke (s : State) (a : VAddr) (v : Word) (b : VAddr) :
    (s.poke a v).peek b = if b = a then v else s.peek b := by
  by_cases ha : isAcAddr a = true
  · by_cases hb : isAcAddr b = true
    · simp only [State.poke, State.peek, ha, hb, if_true, ac_setAc]
      by_cases hab : b = a
      · simp [hab]
      · have : b.extractLsb' 0 4 ≠ a.extractLsb' 0 4 := by
          intro h
          apply hab
          rw [eq_acAddr_of_isAcAddr ha, eq_acAddr_of_isAcAddr hb, h]
        simp [hab, this]
    · have hab : b ≠ a := fun h => hb (h ▸ ha)
      simp [State.poke, State.peek, ha, hb, hab]
  · by_cases hb : isAcAddr b = true
    · have hab : b ≠ a := fun h => ha (h ▸ hb)
      simp only [State.poke, State.peek, ha, hb, hab, if_true, if_false, Bool.false_eq_true]
      rfl
    · simp only [State.poke, State.peek, ha, hb, if_false, Bool.false_eq_true, lookupWord_storeWord]
      by_cases hab : b = a
      · simp [hab]
      · rw [if_neg hab, if_neg (fun h => hab (BitVec.eq_of_toNat_eq h))]

theorem wf_poke (s : State) (a : VAddr) (v : Word) (h : Memory.wf s.mem = true) :
    Memory.wf (s.poke a v).mem = true := by
  unfold State.poke
  split
  · exact h
  · rename_i ha
    exact wf_storeWord v h (by simp only [isAcAddr, decide_eq_true_eq] at ha; omega)

theorem inRange_poke (s : State) (a : VAddr) (v : Word) (h : ∀ p ∈ s.mem, p.1 < s.params.memWords)
    (ha : s.present a = true) : ∀ p ∈ (s.poke a v).mem, p.1 < s.params.memWords := by
  unfold State.poke
  split
  · exact h
  · rename_i hn
    intro p hp
    rcases mem_storeWord hp with rfl | hp
    · simp only [State.present, Bool.or_eq_true, decide_eq_true_eq] at ha
      rcases ha with ha | ha
      · exact absurd ha hn
      · exact ha
    · exact h p hp

theorem bankWord_poke (s : State) (a : VAddr) (v : Word) (b : BitVec 3) (r : AcNum) (hb : b ≠ s.acblk) :
    bankWord (s.poke a v) b r = bankWord s b r := by
  unfold State.poke
  split
  · rw [bankWord_setAc, if_neg (fun h => hb h.1)]
  · rfl

-- The checked accesses

theorem readMem_ok {s : State} {a : VAddr} (h : s.present a = true) : s.readMem a = .ok (s.peek a) := by
  simp [State.readMem, h]

theorem writeMem_ok {s : State} {a : VAddr} (v : Word) (h : s.present a = true) : s.writeMem a v = .ok (s.poke a v) := by
  simp [State.writeMem, h]

/-- A read that answers gives what the address holds, and the address exists. -/
theorem readMem_eq_ok {s : State} {a : VAddr} {w : Word} (h : s.readMem a = .ok w) :
    s.present a = true ∧ w = s.peek a := by
  unfold State.readMem at h
  split at h
  · exact ⟨‹_›, by injection h with h; exact h.symm⟩
  · cases h

/-- A write that answers gives the state with that address's word replaced, and the address exists. -/
theorem writeMem_eq_ok {s t : State} {a : VAddr} {v : Word} (h : s.writeMem a v = .ok t) :
    s.present a = true ∧ t = s.poke a v := by
  unfold State.writeMem at h
  split at h
  · exact ⟨‹_›, by injection h with h; exact h.symm⟩
  · cases h

theorem readMem_error {s : State} {a : VAddr} (h : s.present a = false) :
    s.readMem a = .error (.nonexistentMemory a) := by simp [State.readMem, h]

theorem writeMem_error {s : State} {a : VAddr} (v : Word) (h : s.present a = false) :
    s.writeMem a v = .error (.nonexistentMemory a) := by simp [State.writeMem, h]

end Sys2Proof.Machine
end

