-- ==== Sys2Proof/Laws/Effect.lean ====
section
/-!
SUPPORT. How an `Effect` is built: one lemma per update of the state, each adding what that update does to the effect so
far, and the outcomes of the checked reads of an operand.
-/

namespace Sys2Proof.Machine

-- Writes in order

theorem overwrite_append (f : VAddr → Word) (ws : List (VAddr × Word)) (w : VAddr × Word) (a : VAddr) :
    overwrite f (ws ++ [w]) a = if a = w.1 then w.2 else overwrite f ws a := by
  induction ws generalizing f with
  | nil => rfl
  | cons v vs ih => exact ih _

theorem overwrite_append_list (f : VAddr → Word) (ws vs : List (VAddr × Word)) (a : VAddr) :
    overwrite f (ws ++ vs) a = overwrite (overwrite f ws) vs a := by
  induction ws generalizing f with
  | nil => rfl
  | cons v _ ih => exact ih _

-- Effects

theorem sameControl_refl (s : State) : SameControl s s := ⟨rfl, rfl, rfl, rfl, rfl, rfl, rfl, rfl, rfl, rfl⟩

theorem effect_refl (s : State) : Effect s s [] s.flags s.pc := ⟨fun _ => rfl, fun _ _ _ => rfl, rfl, rfl, sameControl_refl s⟩

variable {s t : State} {ws : List (VAddr × Word)} {f : BitVec 13} {p : VAddr}

theorem effect_poke (h : Effect s t ws f p) (a : VAddr) (v : Word) : Effect s (t.poke a v) (ws ++ [(a, v)]) f p where
  storage b := by rw [peek_poke, overwrite_append, h.storage]
  banks b r hb := by rw [bankWord_poke t a v b r (by rw [h.control.acblk]; exact hb), h.banks b r hb]
  flags := by rw [State.poke_flags, h.flags]
  pc := by rw [State.poke_pc, h.pc]
  control := by
    obtain ⟨h1, h2, h3, h4, h5, h6, h7, h8, h9, h10⟩ := h.control
    constructor <;> simp [*]

theorem effect_setAc (h : Effect s t ws f p) (r : AcNum) (v : Word) :
    Effect s (t.setAc r v) (ws ++ [(acAddr r, v)]) f p := by
  rw [setAc_eq_poke]
  exact effect_poke h _ _

theorem effect_setAcUnlessZero (h : Effect s t ws f p) (r : AcNum) (v : Word) :
    Effect s (t.setAcUnlessZero r v) (ws ++ whenWritten (r ≠ 0) (acAddr r, v)) f p := by
  unfold State.setAcUnlessZero whenWritten
  by_cases hr : r = 0
  · simpa [hr] using h
  · rw [if_neg hr, if_pos hr]
    exact effect_setAc h r v

theorem effect_setAcPair (h : Effect s t ws f p) (r : AcNum) (v : Word × Word) :
    Effect s (t.setAcPair r v) (ws ++ [(acAddr r, v.1), (acAddr (r + 1), v.2)]) f p := by
  have := effect_setAc (effect_setAc h r v.1) (r + 1) v.2
  rwa [List.append_assoc] at this

theorem effect_setAcQuad (h : Effect s t ws f p) (r : AcNum) (v : Word × Word × Word × Word) :
    Effect s (t.setAcQuad r v)
      (ws ++ [(acAddr r, v.1), (acAddr (r + 1), v.2.1), (acAddr (r + 2), v.2.2.1), (acAddr (r + 3), v.2.2.2)]) f p := by
  have := effect_setAc (effect_setAc (effect_setAcPair h r (v.1, v.2.1)) (r + 2) v.2.2.1) (r + 3) v.2.2.2
  rwa [List.append_assoc, List.append_assoc] at this

/-- Any change of FLAGS alone. -/
theorem effect_withFlags (h : Effect s t ws f p) (g : BitVec 13) : Effect s { t with flags := g } ws g p :=
  ⟨h.storage, h.banks, rfl, h.pc, ⟨h.control.1, h.control.2, h.control.3, h.control.4, h.control.5, h.control.6,
    h.control.7, h.control.8, h.control.9, h.control.10⟩⟩

theorem effect_setFlags (h : Effect s t ws f p) (k : BitVec 13) : Effect s (t.setFlags k) ws (f ||| k) p := by
  rw [← h.flags]
  exact effect_withFlags h _

theorem effect_clearFlags (h : Effect s t ws f p) (k : BitVec 13) : Effect s (t.clearFlags k) ws (f &&& ~~~k) p := by
  rw [← h.flags]
  exact effect_withFlags h _

theorem effect_setTrap2If (h : Effect s t ws f p) (c : Bool) :
    Effect s (t.setTrap2If c) ws (if c then f ||| flagMask [.tr2] else f) p := by
  cases c
  · exact h
  · exact effect_setFlags h _

theorem effect_clearOnSave (h : Effect s t ws s.flags p) : Effect s t.clearOnSave ws (linkageFlags s) p := by
  have h' := effect_clearFlags h (flagMask [.fpd, .afi, .tr1, .tr2])
  unfold State.clearOnSave linkageFlags inCycle
  dsimp only
  rw [State.clearFlags_exceptionCycle, h.control.exceptionCycle]
  cases hx : s.exceptionCycle with
  | none => exact h'
  | some e =>
    obtain ⟨k, q⟩ := e
    cases k
    · exact h'
    · exact effect_clearFlags h' (flagMask [.usr, .pub])

/-- Any change of PC alone. -/
theorem effect_withPc (h : Effect s t ws f p) (q : VAddr) : Effect s { t with pc := q } ws f q :=
  ⟨h.storage, h.banks, h.flags, rfl, ⟨h.control.1, h.control.2, h.control.3, h.control.4, h.control.5, h.control.6,
    h.control.7, h.control.8, h.control.9, h.control.10⟩⟩

theorem returnPC_eq (h : Effect s t ws f s.pc) : t.returnPC = s.returnPC := by
  unfold State.returnPC
  rw [h.control.exceptionCycle, h.pc]

theorem sec_eq (h : Effect s t ws f s.pc) (o : Offset) : t.sec o = s.sec o := by
  unfold State.sec
  rw [h.pc]

theorem effect_normal (h : Effect s t ws f s.pc) : Effect s t.normal ws f s.returnPC := by
  rw [← returnPC_eq h]
  exact effect_withPc h _

theorem effect_skipNext (h : Effect s t ws f s.pc) : Effect s t.skipNext ws f (skipPC s) := by
  rw [skipPC, ← returnPC_eq h, ← sec_eq h]
  exact effect_withPc h _

theorem effect_jumpTo (h : Effect s t ws f s.pc) (o : Offset) : Effect s (t.jumpTo o) ws f (s.sec o) := by
  rw [← sec_eq h]
  exact effect_withPc h _

theorem effect_skipIf (h : Effect s t ws f s.pc) (c : Bool) :
    Effect s (t.skipIf c) ws f (if c then skipPC s else s.returnPC) := by
  cases c
  · exact effect_normal h
  · exact effect_skipNext h

theorem effect_jumpIf (h : Effect s t ws f s.pc) (c : Bool) (o : Offset) :
    Effect s (t.jumpIf c o) ws f (if c then s.sec o else s.returnPC) := by
  cases c
  · exact effect_normal h
  · exact effect_jumpTo h o

/-- A read of storage after the writes so far. -/
theorem effect_peek (h : Effect s t ws f p) (a : VAddr) : t.peek a = overwrite s.peek ws a := h.storage a

theorem effect_present (h : Effect s t ws f p) (a : VAddr) : t.present a = s.present a := by
  unfold State.present
  rw [h.control.params]

/-- What an effect allows a statement to change: the same writes, FLAGS and PC under other names. -/
theorem effect_congr {ws' : List (VAddr × Word)} {f' : BitVec 13} {p' : VAddr} (h : Effect s t ws f p)
    (hw : ∀ a, overwrite s.peek ws' a = overwrite s.peek ws a) (hf : f' = f) (hp : p' = p) : Effect s t ws' f' p' :=
  ⟨fun a => by rw [hw, h.storage], h.banks, by rw [hf, h.flags], by rw [hp, h.pc], h.control⟩

-- The operands

theorem operand_ok {m : AddrPart} {e : Offset} (he : s.effective m = .ok e) (hp : s.present (s.sec e) = true) :
    s.operand m = .ok (s.sec e, s.peek (s.sec e)) := by
  unfold State.operand
  rw [he]
  simp only [bind, Except.bind, readMem_ok hp]
  rfl

theorem readMem2_ok {a : VAddr} (hp : s.present a = true) (hq : s.present (nextInSection a) = true) :
    s.readMem2 a = .ok (s.peek a, s.peek (nextInSection a)) := by
  unfold State.readMem2
  simp only [bind, Except.bind, readMem_ok hp, readMem_ok hq]
  rfl

theorem writeMem2_ok {a : VAddr} (v : Word × Word) (hp : s.present a = true)
    (hq : s.present (nextInSection a) = true) :
    s.writeMem2 a v = .ok ((s.poke a v.1).poke (nextInSection a) v.2) := by
  unfold State.writeMem2
  simp only [bind, Except.bind, writeMem_ok _ hp]
  exact writeMem_ok _ (by simpa using hq)

theorem operand2_ok {m : AddrPart} {e : Offset} (he : s.effective m = .ok e) (hp : s.present (s.sec e) = true)
    (hq : s.present (nextInSection (s.sec e)) = true) :
    s.operand2 m = .ok (s.peek (s.sec e), s.peek (nextInSection (s.sec e))) := by
  unfold State.operand2
  rw [he]
  simp only [bind, Except.bind, readMem2_ok hp hq]

/-- The word that stands for the instruction itself chooses `lastWord` only, never E (R85). -/
theorem resolveFrom_own {k : Nat} {m : AddrPart} {own last : Word} {e : Offset} (own' : Word)
    (h : s.resolveFrom k m own = .ok (e, last)) : ∃ l, s.resolveFrom k m own' = .ok (e, l) := by
  unfold State.resolveFrom at h ⊢
  by_cases hi : m.indirect = true
  · have hx : (s.indexed m own).1 = (s.indexed m own').1 := by
      unfold State.indexed
      split <;> rfl
    cases k with
    | zero => simp [hi] at h
    | succ k =>
      simp only [hi, if_true] at h ⊢
      rw [← hx]
      exact ⟨last, h⟩
  · simp only [hi, Bool.false_eq_true, if_false, Except.ok.injEq] at h ⊢
    unfold State.indexed at h ⊢
    split at h
    · rename_i hx
      simp only [hx, if_true]
      exact ⟨own', by rw [← (Prod.mk.inj h).1]⟩
    · rename_i hx
      simp only [hx, if_false]
      exact ⟨last, by rw [← h]⟩

theorem effective_of_resolve {m : AddrPart} {own last : Word} {e : Offset} (h : s.resolve m own = .ok (e, last)) :
    s.effective m = .ok e := by
  obtain ⟨l, hl⟩ := resolveFrom_own 0 h
  unfold State.effective State.resolve
  rw [hl]
  rfl

theorem resolve_of_effective {m : AddrPart} {e : Offset} (own : Word) (h : s.effective m = .ok e) :
    ∃ last, s.resolve m own = .ok (e, last) := by
  unfold State.effective at h
  cases hr : s.resolve m 0 with
  | error f =>
    rw [hr] at h
    cases h
  | ok r =>
    rw [hr] at h
    have he : r.1 = e := Except.ok.inj h
    refine resolveFrom_own (own := 0) (last := r.2) own ?_
    rw [← he]
    exact hr

end Sys2Proof.Machine
end

