-- ==== Sys2Proof/Laws/Words.lean ====
section
/-!
SUPPORT. Halves, fields and signs of a word, in numbers and bit by bit.
-/

namespace Sys2Proof.Machine

@[simp] theorem toNat_append_halves (l r : Half) : BitVec.toNat (w := 36) (l ++ r) = l.toNat * 2 ^ 18 + r.toNat := by
  have h := BitVec.toNat_append l r
  rw [Nat.shiftLeft_eq, Nat.mul_comm, ← Nat.two_pow_add_eq_or_of_lt r.isLt] at h
  rw [Nat.mul_comm]
  exact h

theorem getLsbD_append_halves (l r : Half) (k : Nat) :
    BitVec.getLsbD (w := 36) (l ++ r) k = if k < 18 then r.getLsbD k else l.getLsbD (k - 18) :=
  BitVec.getLsbD_append

@[simp] theorem lh_append (l r : Half) : lh (l ++ r) = l := by
  apply BitVec.eq_of_getLsbD_eq
  intro i hi
  unfold lh
  rw [BitVec.getLsbD_extractLsb', getLsbD_append_halves, if_neg (by omega), Nat.add_sub_cancel_left]
  simp [hi]

@[simp] theorem rh_append (l r : Half) : rh (l ++ r) = r := by
  apply BitVec.eq_of_getLsbD_eq
  intro i hi
  unfold rh
  rw [BitVec.getLsbD_extractLsb', getLsbD_append_halves, if_pos (by omega), Nat.zero_add]
  simp [hi]

@[simp] theorem lh_joinHalves (l r : Half) : lh (joinHalves l r) = l := lh_append l r

@[simp] theorem rh_joinHalves (l r : Half) : rh (joinHalves l r) = r := rh_append l r

theorem append_lh_rh (w : Word) : lh w ++ rh w = w := by
  apply BitVec.eq_of_getLsbD_eq
  intro i hi
  have h := getLsbD_append_halves (lh w) (rh w) i
  refine h.trans ?_
  unfold lh rh
  split
  · rename_i hk
    simp [hk]
  · rename_i hk
    have : i - 18 < 18 := by omega
    simp only [BitVec.getLsbD_extractLsb', this, decide_true, Bool.true_and]
    rw [Nat.add_sub_cancel' (by omega)]

theorem word_eq_of_halves {v w : Word} (hl : lh v = lh w) (hr : rh v = rh w) : v = w := by
  rw [← append_lh_rh v, ← append_lh_rh w, hl, hr]

theorem immediate_toNat (e : Offset) : (immediate e).toNat = e.toNat := by
  refine (toNat_append_halves 0 e).trans ?_
  simp

theorem immediate_toInt (e : Offset) : (immediate e).toInt = e.toNat := by
  have := e.isLt
  rw [BitVec.toInt_eq_toNat_of_lt (by rw [immediate_toNat]; omega), immediate_toNat]

@[simp] theorem swapHalves_immediate (e : Offset) : swapHalves (immediate e) = e ++ (0#18) := by
  unfold swapHalves immediate
  rw [lh_joinHalves, rh_joinHalves]
  rfl

theorem and_bit_ne_zero (a : BitVec 13) (k : Nat) : (a &&& BitVec.twoPow 13 k != 0) = (a.getLsbD k && decide (k < 13)) := by
  rw [BitVec.and_twoPow]
  by_cases hk : k < 13
  · cases h : a.getLsbD k
    · simp
    · have : BitVec.twoPow 13 k ≠ 0 := by
        intro h0
        have := congrArg (fun v : BitVec 13 => v.getLsbD k) h0
        simp [hk] at this
      simp only [if_true, hk, decide_true, Bool.and_true, bne_iff_ne, ne_eq]
      exact this
  · have : a.getLsbD k = false := BitVec.getLsbD_of_ge a k (by omega)
    simp [this]

/-- A flag is one bit of FLAGS (R25). -/
theorem hasFlag_eq (a : BitVec 13) (f : Flag) : hasFlag a f = a.getLsbD (12 - flagBit f) := by
  have key : ∀ k < 13, f.mask = BitVec.twoPow 13 k → hasFlag a f = a.getLsbD k := by
    intro k hk hm
    unfold hasFlag
    rw [hm, and_bit_ne_zero]
    simp [hk]
  cases f <;> exact key _ (by decide) (by decide)

theorem hasFlag_or (a b : BitVec 13) (f : Flag) : hasFlag (a ||| b) f = (hasFlag a f || hasFlag b f) := by
  simp [hasFlag_eq]

theorem hasFlag_and (a b : BitVec 13) (f : Flag) : hasFlag (a &&& b) f = (hasFlag a f && hasFlag b f) := by
  simp [hasFlag_eq]

theorem hasFlag_not (a : BitVec 13) (f : Flag) : hasFlag (~~~a) f = !hasFlag a f := by
  have : 12 - flagBit f < 13 := by omega
  simp [hasFlag_eq, this]

/-- Two flag values with the same flags are the same. -/
theorem flags_ext {a b : BitVec 13} (h : ∀ f, hasFlag a f = hasFlag b f) : a = b := by
  simp only [hasFlag_eq] at h
  apply BitVec.eq_of_getLsbD_eq
  intro i hi
  have cover : ∃ f : Flag, 12 - flagBit f = i := by
    have : ∀ i < 13, ∃ f ∈ [Flag.aov, .cry0, .cry1, .fov, .fpd, .usr, .uio, .pub, .afi, .tr2, .tr1, .fxu, .ndv],
        12 - flagBit f = i := by decide
    obtain ⟨f, _, hf⟩ := this i hi
    exact ⟨f, hf⟩
  obtain ⟨f, rfl⟩ := cover
  exact h f

/-- The flags of a word's bits 0-12 (R27). -/
theorem hasFlag_headField (w : Word) (f : Flag) : hasFlag (headField w) f = w.getMsbD (flagBit f) := by
  rw [hasFlag_eq]
  unfold headField
  rw [BitVec.getLsbD_extractLsb', BitVec.getMsbD]
  have h1 : flagBit f ≤ 12 := by cases f <;> decide
  have h2 : 12 - flagBit f < 13 := by omega
  have h3 : flagBit f < 36 := by omega
  simp only [h2, h3, decide_true, Bool.true_and]
  congr 1
  omega

end Sys2Proof.Machine
end

