-- ==== Sys2Proof/Laws/Encoding.lean ====
section
/-!
SUPPORT. The fields of the two instruction formats (R80, R81) read back from a word put together of them, and what the
decoder makes of such a word.
-/

namespace Sys2Proof

theorem getLsbD_headed (h : BitVec 13) (b : BitVec 23) (k : Nat) :
    BitVec.getLsbD (w := 36) (h ++ b) k = if k < 23 then b.getLsbD k else h.getLsbD (k - 23) :=
  BitVec.getLsbD_append

theorem headField_append (h : BitVec 13) (b : BitVec 23) : headField (h ++ b) = h := by
  apply BitVec.eq_of_getLsbD_eq
  intro i hi
  unfold headField
  rw [BitVec.getLsbD_extractLsb', getLsbD_headed, if_neg (by omega), Nat.add_sub_cancel_left]
  simp [hi]

theorem lowBits_append (h : BitVec 13) (b : BitVec 23) : BitVec.extractLsb' (n := 36) 0 23 (h ++ b) = b := by
  apply BitVec.eq_of_getLsbD_eq
  intro i hi
  rw [BitVec.getLsbD_extractLsb', getLsbD_headed, if_pos (by omega), Nat.zero_add]
  simp [hi]

/-- A word is its head and its low 23 bits. -/
theorem word_split (w : Word) : headField w ++ w.extractLsb' 0 23 = w := by
  apply BitVec.eq_of_getLsbD_eq
  intro i hi
  refine (getLsbD_headed (headField w) (w.extractLsb' 0 23) i).trans ?_
  unfold headField
  split
  · rename_i hk
    simp [hk]
  · rename_i hk
    have : i - 23 < 13 := by omega
    simp only [BitVec.getLsbD_extractLsb', this, decide_true, Bool.true_and]
    rw [Nat.add_sub_cancel' (by omega)]

/-- Opcode, accumulator, device and sub-operation are fields of the head. -/
theorem opField_eq (w : Word) : opField w = (headField w).extractLsb' 4 9 := by
  unfold opField headField
  ext i hi
  simp only [BitVec.getElem_extractLsb', BitVec.getLsbD_extractLsb']
  rw [show decide (4 + i < 13) = true by simp; omega, Bool.true_and]
  congr 1
  omega

theorem acField_eq (w : Word) : acField w = (headField w).extractLsb' 0 4 := by
  unfold acField headField
  ext i hi
  simp only [BitVec.getElem_extractLsb', BitVec.getLsbD_extractLsb']
  rw [show decide (0 + i < 13) = true by simp; omega, Bool.true_and]
  congr 1
  omega

theorem devField_eq (w : Word) : devField w = (headField w).extractLsb' 3 7 := by
  unfold devField headField
  ext i hi
  simp only [BitVec.getElem_extractLsb', BitVec.getLsbD_extractLsb']
  rw [show decide (3 + i < 13) = true by simp; omega, Bool.true_and]
  congr 1
  omega

theorem subField_eq (w : Word) : subField w = (headField w).extractLsb' 0 3 := by
  unfold subField headField
  ext i hi
  simp only [BitVec.getElem_extractLsb', BitVec.getLsbD_extractLsb']
  rw [show decide (0 + i < 13) = true by simp; omega, Bool.true_and]
  congr 1
  omega

/-- The address part is a function of the low 23 bits. -/
theorem ofWord_eq (w : Word) : AddrPart.ofWord w =
    { indirect := (w.extractLsb' 0 23).getLsbD 22, index := (w.extractLsb' 0 23).extractLsb' 18 4,
      disp := (w.extractLsb' 0 23).extractLsb' 0 18 } := by
  have h1 : w.getLsbD 22 = (w.extractLsb' 0 23).getLsbD 22 := by simp
  have h2 : w.extractLsb' 18 4 = (w.extractLsb' 0 23).extractLsb' 18 4 := by
    ext i hi
    simp only [BitVec.getElem_extractLsb', BitVec.getLsbD_extractLsb']
    rw [show decide (18 + i < 23) = true by simp; omega, Bool.true_and, Nat.zero_add]
  have h3 : w.extractLsb' 0 18 = (w.extractLsb' 0 23).extractLsb' 0 18 := by
    ext i hi
    simp only [BitVec.getElem_extractLsb', BitVec.getLsbD_extractLsb']
    rw [show decide (0 + i < 23) = true by simp; omega, Bool.true_and]
    simp only [Nat.zero_add]
  unfold AddrPart.ofWord
  rw [h1, h2, h3]

theorem bits_fields (m : AddrPart) :
    m.bits.getLsbD 22 = m.indirect ∧ m.bits.extractLsb' 18 4 = m.index ∧ m.bits.extractLsb' 0 18 = m.disp := by
  obtain ⟨i, x, y⟩ := m
  unfold AddrPart.bits
  have key : ∀ k, BitVec.getLsbD (w := 23) (BitVec.ofBool i ++ x ++ y) k
      = if k < 18 then y.getLsbD k else if k - 18 < 4 then x.getLsbD (k - 18)
        else (BitVec.ofBool i).getLsbD (k - 18 - 4) := by
    intro k
    refine (BitVec.getLsbD_append (x := BitVec.ofBool i ++ x) (y := y) (i := k)).trans ?_
    split
    · rfl
    · exact BitVec.getLsbD_append
  refine ⟨?_, ?_, ?_⟩
  · rw [key]
    simp
  · ext k hk
    rw [BitVec.getElem_extractLsb', key, if_neg (by omega), Nat.add_sub_cancel_left, if_pos hk]
    simp [BitVec.getLsbD_eq_getElem hk]
  · ext k hk
    rw [BitVec.getElem_extractLsb', key, Nat.zero_add, if_pos hk]
    simp [BitVec.getLsbD_eq_getElem hk]

/-- Every 23 bits are the bits of an address part. -/
theorem bits_ofFields (b : BitVec 23) :
    AddrPart.bits { indirect := b.getLsbD 22, index := b.extractLsb' 18 4, disp := b.extractLsb' 0 18 } = b := by
  obtain ⟨h1, h2, h3⟩ :=
    bits_fields { indirect := b.getLsbD 22, index := b.extractLsb' 18 4, disp := b.extractLsb' 0 18 }
  generalize AddrPart.bits { indirect := b.getLsbD 22, index := b.extractLsb' 18 4, disp := b.extractLsb' 0 18 } = c
    at h1 h2 h3
  dsimp only at h1 h2 h3
  apply BitVec.eq_of_getLsbD_eq
  intro k hk
  rcases Nat.lt_or_ge k 18 with h | h
  · have := congrArg (fun v : BitVec 18 => v.getLsbD k) h3
    simpa [h] using this
  · rcases Nat.lt_or_ge k 22 with h' | h'
    · have := congrArg (fun v : BitVec 4 => v.getLsbD (k - 18)) h2
      have h4 : k - 18 < 4 := by omega
      have h5 : 18 + (k - 18) = k := by omega
      simpa [h4, h5] using this
    · have : k = 22 := by omega
      rw [this, h1]

theorem ofWord_append (h : BitVec 13) (m : AddrPart) : AddrPart.ofWord (h ++ m.bits) = m := by
  rw [ofWord_eq, lowBits_append]
  obtain ⟨h1, h2, h3⟩ := bits_fields m
  rw [h1, h2, h3]

theorem bits_ofWord (w : Word) : (AddrPart.ofWord w).bits = w.extractLsb' 0 23 := by
  rw [ofWord_eq, bits_ofFields]

-- The basic format

@[simp] theorem headField_basicWord (op : BitVec 9) (ac : AcNum) (m : AddrPart) :
    headField (basicWord op ac m) = op ++ ac := headField_append _ _

@[simp] theorem ofWord_basicWord (op : BitVec 9) (ac : AcNum) (m : AddrPart) :
    AddrPart.ofWord (basicWord op ac m) = m := ofWord_append (op ++ ac) m

@[simp] theorem opField_basicWord (op : BitVec 9) (ac : AcNum) (m : AddrPart) : opField (basicWord op ac m) = op := by
  rw [opField_eq, headField_basicWord]
  ext i hi
  rw [BitVec.getElem_extractLsb', BitVec.getLsbD_append, if_neg (by omega), Nat.add_sub_cancel_left,
    BitVec.getLsbD_eq_getElem hi]

@[simp] theorem acField_basicWord (op : BitVec 9) (ac : AcNum) (m : AddrPart) : acField (basicWord op ac m) = ac := by
  rw [acField_eq, headField_basicWord]
  ext i hi
  rw [BitVec.getElem_extractLsb', BitVec.getLsbD_append, Nat.zero_add, if_pos hi, BitVec.getLsbD_eq_getElem hi]

/-- The decoder on a word of the basic format. -/
theorem decode_basicWord {op : BitVec 9} {f : AcNum → AddrPart → Instr} (h : opcodeTable[op.toNat]? = some f)
    (ac : AcNum) (m : AddrPart) : decode (basicWord op ac m) = f ac m := by
  unfold decode
  simp only [opField_basicWord, acField_basicWord, ofWord_basicWord, h]

/-- The table's seven blocks of 64 opcodes: entry `k` of block `b` is opcode `64 b + k`. -/
theorem opcodeTable_block {b k : Nat} {f : AcNum → AddrPart → Instr} (hk : k < 64)
    (h : ([opcodes0, opcodes1, opcodes2, opcodes3, opcodes4, opcodes5, opcodes6].getD b [])[k]? = some f) :
    opcodeTable[64 * b + k]? = some f := by
  have h64 : opcodes0.length = 64 ∧ opcodes1.length = 64 ∧ opcodes2.length = 64 ∧ opcodes3.length = 64
      ∧ opcodes4.length = 64 ∧ opcodes5.length = 64 ∧ opcodes6.length = 64 := ⟨rfl, rfl, rfl, rfl, rfl, rfl, rfl⟩
  obtain ⟨h0, h1, h2, h3, h4, h5, h6⟩ := h64
  unfold opcodeTable
  rcases b with _ | _ | _ | _ | _ | _ | _ | b
  all_goals
    simp only [List.getD_cons_zero, List.getD_cons_succ, List.getD_nil, List.getElem?_nil, reduceCtorEq] at h
  · rw [List.getElem?_append_left (by simp; omega), List.getElem?_append_left (by simp; omega),
      List.getElem?_append_left (by simp; omega), List.getElem?_append_left (by simp; omega),
      List.getElem?_append_left (by simp; omega), List.getElem?_append_left (by simp; omega)]
    simpa using h
  · rw [List.getElem?_append_left (by simp; omega), List.getElem?_append_left (by simp; omega),
      List.getElem?_append_left (by simp; omega), List.getElem?_append_left (by simp; omega),
      List.getElem?_append_left (by simp; omega), List.getElem?_append_right (by simp; omega)]
    simpa [h0] using h
  · rw [List.getElem?_append_left (by simp; omega), List.getElem?_append_left (by simp; omega),
      List.getElem?_append_left (by simp; omega), List.getElem?_append_left (by simp; omega),
      List.getElem?_append_right (by simp; omega)]
    simpa [h0, h1] using h
  · rw [List.getElem?_append_left (by simp; omega), List.getElem?_append_left (by simp; omega),
      List.getElem?_append_left (by simp; omega), List.getElem?_append_right (by simp; omega)]
    simpa [h0, h1, h2] using h
  · rw [List.getElem?_append_left (by simp; omega), List.getElem?_append_left (by simp; omega),
      List.getElem?_append_right (by simp; omega)]
    simpa [h0, h1, h2, h3] using h
  · rw [List.getElem?_append_left (by simp; omega), List.getElem?_append_right (by simp; omega)]
    simpa [h0, h1, h2, h3, h4] using h
  · rw [List.getElem?_append_right (by simp; omega)]
    simpa [h0, h1, h2, h3, h4, h5] using h

/-- The decoder on a word of the basic format whose opcode is entry `k` of block `b`. -/
theorem decode_block (b k : Nat) {op : BitVec 9} {f : AcNum → AddrPart → Instr} (hop : op.toNat = 64 * b + k)
    (hk : k < 64)
    (h : ([opcodes0, opcodes1, opcodes2, opcodes3, opcodes4, opcodes5, opcodes6].getD b [])[k]? = some f)
    (ac : AcNum) (m : AddrPart) : decode (basicWord op ac m) = f ac m :=
  decode_basicWord (by rw [hop]; exact opcodeTable_block hk h) ac m

-- The I/O format

@[simp] theorem headField_ioWord (dev : DevId) (sub : BitVec 3) (m : AddrPart) :
    headField (ioWord dev sub m) = (7#3) ++ dev ++ sub := headField_append _ _

@[simp] theorem ofWord_ioWord (dev : DevId) (sub : BitVec 3) (m : AddrPart) :
    AddrPart.ofWord (ioWord dev sub m) = m := ofWord_append ((7#3) ++ dev ++ sub) m

@[simp] theorem devField_ioWord (dev : DevId) (sub : BitVec 3) (m : AddrPart) : devField (ioWord dev sub m) = dev := by
  rw [devField_eq, headField_ioWord]
  ext i hi
  rw [BitVec.getElem_extractLsb', BitVec.getLsbD_append, if_neg (by omega), Nat.add_sub_cancel_left,
    BitVec.getLsbD_append, if_pos hi, BitVec.getLsbD_eq_getElem hi]

@[simp] theorem subField_ioWord (dev : DevId) (sub : BitVec 3) (m : AddrPart) : subField (ioWord dev sub m) = sub := by
  rw [subField_eq, headField_ioWord]
  ext i hi
  rw [BitVec.getElem_extractLsb', BitVec.getLsbD_append, Nat.zero_add, if_pos hi, BitVec.getLsbD_eq_getElem hi]

/-- An I/O word's opcode is 0700 or more (R82). -/
theorem opField_ioWord (dev : DevId) (sub : BitVec 3) (m : AddrPart) : 448 ≤ (opField (ioWord dev sub m)).toNat := by
  rw [opField_eq, headField_ioWord]
  have : (BitVec.extractLsb' 4 9 ((7#3) ++ dev ++ sub)).extractLsb' 6 3 = 7#3 := by
    ext i hi
    rw [BitVec.getElem_extractLsb', BitVec.getLsbD_extractLsb', BitVec.getLsbD_append, if_neg (by omega),
      BitVec.getLsbD_append, if_neg (by omega), show 4 + (6 + i) - 3 - 7 = i by omega, BitVec.getLsbD_eq_getElem hi]
    simp
    omega
  have h2 := congrArg BitVec.toNat this
  rw [BitVec.extractLsb'_toNat, Nat.shiftRight_eq_div_pow] at h2
  simp only [BitVec.toNat_ofNat] at h2
  omega

theorem opcodeTable_length : opcodeTable.length = 448 := by
  have h : opcodes0.length = 64 ∧ opcodes1.length = 64 ∧ opcodes2.length = 64 ∧ opcodes3.length = 64
      ∧ opcodes4.length = 64 ∧ opcodes5.length = 64 ∧ opcodes6.length = 64 := ⟨rfl, rfl, rfl, rfl, rfl, rfl, rfl⟩
  unfold opcodeTable
  simp only [List.length_append, h]

/-- The decoder on a word of the I/O format. -/
theorem decode_ioWord (dev : DevId) (sub : BitVec 3) (m : AddrPart) : decode (ioWord dev sub m) = decodeIo sub dev m := by
  unfold decode
  rw [List.getElem?_eq_none (by rw [opcodeTable_length]; exact opField_ioWord dev sub m)]
  simp

end Sys2Proof
end

