-- ==== Sys2Proof/Laws/Heads.lean ====
section
/-!
SUPPORT. How the lists of opcodes and of thirteen-bit heads in the statements are taken apart, one entry at a time, and
what an entry of each format comes to.
-/

namespace Sys2Proof

@[simp] theorem opcodes_nil : Opcodes [] := fun _ h => absurd h List.not_mem_nil

@[simp] theorem opcodes_cons (i : Instr) (op : BitVec 9) (l : List (Instr × BitVec 9)) :
    Opcodes ((i, op) :: l) ↔ opField (encode i) = op ∧ Opcodes l :=
  List.forall_mem_cons

@[simp] theorem heads_nil : Heads [] := fun _ h => absurd h List.not_mem_nil

@[simp] theorem heads_cons (i : Instr) (head : BitVec 13) (l : List (Instr × BitVec 13)) :
    Heads ((i, head) :: l) ↔ headField (encode i) = head ∧ Heads l :=
  List.forall_mem_cons

/-- The opcode of an instruction of the basic format, from the arm of the encoder that writes its word. -/
theorem opField_of_basic {i : Instr} {op : BitVec 9} {ac : AcNum} {m : AddrPart} (h : encode i = basicWord op ac m) :
    opField (encode i) = op := by
  rw [h, opField_basicWord]

/-- The opcode and accumulator fields of an instruction of the basic format. -/
theorem headField_of_basic {i : Instr} {op : BitVec 9} {ac : AcNum} {m : AddrPart} (h : encode i = basicWord op ac m) :
    headField (encode i) = op ++ ac := by
  rw [h, headField_basicWord]

/-- Bits 0-12 of an instruction of the I/O format. -/
theorem headField_of_io {i : Instr} {dev : DevId} {sub : BitVec 3} {m : AddrPart} (h : encode i = ioWord dev sub m) :
    headField (encode i) = (7#3) ++ dev ++ sub := by
  rw [h, headField_ioWord]

end Sys2Proof
end

