-- ==== Sys2Proof/Laws/Host.lean ====
section
/-!
SUPPORT. What the host's deposit does (R668): it keeps the invariant at every address that exists, and an examine then
reads the word.
-/

namespace Sys2Proof.Machine

theorem poke_control (s : State) (a : VAddr) (v : Word) :
    (s.poke a v).devices = s.devices ∧ (s.poke a v).exceptionCycle = s.exceptionCycle ∧
      (s.poke a v).redispatch = s.redispatch ∧ (s.poke a v).params = s.params := by
  unfold State.poke
  split <;> exact ⟨rfl, rfl, rfl, rfl⟩

/-- A deposit at an address that exists keeps the invariant; at another one it need not (log 19). -/
theorem inv_deposit {s : State} {a : VAddr} (v : Word) (h : Inv s) (ha : s.present a = true) : Inv (s.deposit a v) := by
  obtain ⟨hd, he, hr, hp⟩ := poke_control s a v
  exact
    { memCanonical := wf_poke s a v h.memCanonical
      memInRange := by
        rw [State.deposit, hp]
        exact inRange_poke s a v h.memInRange ha
      registry := hd ▸ h.registry
      noException := he.trans h.noException
      noRedispatch := hr.trans h.noRedispatch }

/-- A deposit is what an examine of the same address reads, and no other address reads otherwise. -/
theorem examine_deposit (s : State) (a b : VAddr) (v : Word) :
    (s.deposit a v).examine b = if b = a then v else s.examine b := peek_poke s a v b

end Sys2Proof.Machine
end

