-- ==== Sys2Proof/Laws/Modes.lean ====
section
/-!
SUPPORT. One lemma per shared operation, saying once what it does when its operand can be read: the next state and its
effect. The statement about an instruction is its meaning's lemma with the function filled in.
-/

namespace Sys2Proof.Machine

/-- A result that is a next state with this effect from `base`. -/
def Does (r : Result) (base : State) (ws : List (VAddr × Word)) (f : BitVec 13) (p : VAddr) : Prop :=
  ∃ t, r = .next t ∧ Effect base t ws f p

variable {s : State} {m : AddrPart} {e : Offset} {ac : AcNum}

theorem does_finish_ok {base t : State} {x : Except Fault State} {ws : List (VAddr × Word)} {f : BitVec 13}
    {p : VAddr} (hx : x = .ok t) (h : Effect base t ws f p) : Does (finish x) base ws f p := by
  rw [hx]
  exact ⟨t, rfl, h⟩

theorem does_congr {r : Result} {base : State} {ws ws' : List (VAddr × Word)} {f f' : BitVec 13} {p p' : VAddr}
    (h : Does r base ws f p) (hw : ws' = ws) (hf : f' = f) (hp : p' = p) : Does r base ws' f' p' := by
  subst hw hf hp
  exact h

@[simp] theorem offsetOf_append (a : BitVec 12) (o : Offset) : offsetOf (a ++ o) = o := by
  unfold offsetOf
  apply BitVec.eq_of_getLsbD_eq
  intro i hi
  simp only [BitVec.getLsbD_extractLsb', BitVec.getLsbD_append, Nat.zero_add, hi, decide_true, Bool.true_and, if_true]

@[simp] theorem sectionOf_append (a : BitVec 12) (o : Offset) : sectionOf (a ++ o) = a := by
  unfold sectionOf
  apply BitVec.eq_of_getLsbD_eq
  intro i hi
  have h1 : ¬ 18 + i < 18 := by omega
  have h2 : 18 + i - 18 = i := by omega
  simp only [BitVec.getLsbD_extractLsb', BitVec.getLsbD_append, hi, decide_true, Bool.true_and, h1, if_false, h2]

@[simp] theorem offsetOf_sec (s : State) (o : Offset) : offsetOf (s.sec o) = o := offsetOf_append _ _

@[simp] theorem sectionOf_sec (s : State) (o : Offset) : sectionOf (s.sec o) = sectionOf s.pc := sectionOf_append _ _

@[simp] theorem nextInSection_sec (s : State) (o : Offset) : nextInSection (s.sec o) = s.sec (o + 1) := by
  unfold nextInSection inSection
  rw [sectionOf_sec, offsetOf_sec]
  rfl

-- One-operand modes

theorem does_unaryBasic (f : Word → Word × BitVec 13) (he : s.effective m = .ok e)
    (hp : s.present (s.sec e) = true) :
    Does (unaryBasic f ac m s) s [(acAddr ac, (f (s.peek (s.sec e))).1)] (s.flags ||| (f (s.peek (s.sec e))).2)
      s.returnPC := by
  refine does_finish_ok (by simp only [bind, Except.bind, operand_ok he hp]; rfl) ?_
  exact effect_normal (effect_setAc (effect_setFlags (effect_refl s) _) _ _)

theorem does_unaryImmediate (f : Word → Word × BitVec 13) (he : s.effective m = .ok e) :
    Does (unaryImmediate f ac m s) s [(acAddr ac, (f (immediate e)).1)] (s.flags ||| (f (immediate e)).2) s.returnPC := by
  refine does_finish_ok (by simp only [bind, Except.bind, he]; rfl) ?_
  exact effect_normal (effect_setAc (effect_setFlags (effect_refl s) _) _ _)

theorem does_unaryMemory (f : Word → Word × BitVec 13) (he : s.effective m = .ok e) (hp : s.present (s.sec e) = true) :
    Does (unaryMemory f ac m s) s [(s.sec e, (f (s.ac ac)).1)] (s.flags ||| (f (s.ac ac)).2) s.returnPC := by
  refine does_finish_ok
    (by simp only [bind, Except.bind, he]; rw [writeMem_ok _ (by simpa using hp)]; rfl) ?_
  exact effect_normal (effect_poke (effect_setFlags (effect_refl s) _) _ _)

theorem does_unarySelf (f : Word → Word × BitVec 13) (he : s.effective m = .ok e) (hp : s.present (s.sec e) = true) :
    Does (unarySelf f ac m s) s
      ((s.sec e, (f (s.peek (s.sec e))).1) :: whenWritten (ac ≠ 0) (acAddr ac, (f (s.peek (s.sec e))).1))
      (s.flags ||| (f (s.peek (s.sec e))).2) s.returnPC := by
  refine does_finish_ok
    (by simp only [bind, Except.bind, operand_ok he hp]; rw [writeMem_ok _ (by simpa using hp)]; rfl) ?_
  exact effect_normal (effect_setAcUnlessZero (effect_poke (effect_setFlags (effect_refl s) _) _ _) _ _)

-- Two-operand modes

theorem does_binaryBasic (f : Word → Word → Word × BitVec 13) (he : s.effective m = .ok e)
    (hp : s.present (s.sec e) = true) :
    Does (binaryBasic f ac m s) s [(acAddr ac, (f (s.ac ac) (s.peek (s.sec e))).1)]
      (s.flags ||| (f (s.ac ac) (s.peek (s.sec e))).2) s.returnPC := by
  refine does_finish_ok (by simp only [bind, Except.bind, operand_ok he hp]; rfl) ?_
  exact effect_normal (effect_setAc (effect_setFlags (effect_refl s) _) _ _)

theorem does_binaryImmediate (f : Word → Word → Word × BitVec 13) (he : s.effective m = .ok e) :
    Does (binaryImmediate f ac m s) s [(acAddr ac, (f (s.ac ac) (immediate e)).1)]
      (s.flags ||| (f (s.ac ac) (immediate e)).2) s.returnPC := by
  refine does_finish_ok (by simp only [bind, Except.bind, he]; rfl) ?_
  exact effect_normal (effect_setAc (effect_setFlags (effect_refl s) _) _ _)

theorem does_binaryMemory (f : Word → Word → Word × BitVec 13) (he : s.effective m = .ok e)
    (hp : s.present (s.sec e) = true) :
    Does (binaryMemory f ac m s) s [(s.sec e, (f (s.ac ac) (s.peek (s.sec e))).1)]
      (s.flags ||| (f (s.ac ac) (s.peek (s.sec e))).2) s.returnPC := by
  refine does_finish_ok
    (by simp only [bind, Except.bind, operand_ok he hp]; rw [writeMem_ok _ (by simpa using hp)]; rfl) ?_
  exact effect_normal (effect_poke (effect_setFlags (effect_refl s) _) _ _)

theorem does_binaryBoth (f : Word → Word → Word × BitVec 13) (he : s.effective m = .ok e)
    (hp : s.present (s.sec e) = true) :
    Does (binaryBoth f ac m s) s
      [(s.sec e, (f (s.ac ac) (s.peek (s.sec e))).1), (acAddr ac, (f (s.ac ac) (s.peek (s.sec e))).1)]
      (s.flags ||| (f (s.ac ac) (s.peek (s.sec e))).2) s.returnPC := by
  refine does_finish_ok
    (by simp only [bind, Except.bind, operand_ok he hp]; rw [writeMem_ok _ (by simpa using hp)]; rfl) ?_
  exact effect_normal (effect_setAc (effect_poke (effect_setFlags (effect_refl s) _) _ _) _ _)

-- Two-word results

theorem does_pairBasic (f : Word → Word → (Word × Word) × BitVec 13) (he : s.effective m = .ok e)
    (hp : s.present (s.sec e) = true) :
    Does (pairBasic f ac m s) s
      [(acAddr ac, (f (s.ac ac) (s.peek (s.sec e))).1.1), (acAddr (ac + 1), (f (s.ac ac) (s.peek (s.sec e))).1.2)]
      (s.flags ||| (f (s.ac ac) (s.peek (s.sec e))).2) s.returnPC := by
  refine does_finish_ok (by simp only [bind, Except.bind, operand_ok he hp]; rfl) ?_
  exact effect_normal (effect_setAcPair (effect_setFlags (effect_refl s) _) _ _)

theorem does_pairImmediate (f : Word → Word → (Word × Word) × BitVec 13) (he : s.effective m = .ok e) :
    Does (pairImmediate f ac m s) s
      [(acAddr ac, (f (s.ac ac) (immediate e)).1.1), (acAddr (ac + 1), (f (s.ac ac) (immediate e)).1.2)]
      (s.flags ||| (f (s.ac ac) (immediate e)).2) s.returnPC := by
  refine does_finish_ok (by simp only [bind, Except.bind, he]; rfl) ?_
  exact effect_normal (effect_setAcPair (effect_setFlags (effect_refl s) _) _ _)

theorem does_pairMemory (f : Word → Word → (Word × Word) × BitVec 13) (he : s.effective m = .ok e)
    (hp : s.present (s.sec e) = true) :
    Does (pairMemory f ac m s) s [(s.sec e, (f (s.ac ac) (s.peek (s.sec e))).1.1)]
      (s.flags ||| (f (s.ac ac) (s.peek (s.sec e))).2) s.returnPC := by
  refine does_finish_ok
    (by simp only [bind, Except.bind, operand_ok he hp]; rw [writeMem_ok _ (by simpa using hp)]; rfl) ?_
  exact effect_normal (effect_poke (effect_setFlags (effect_refl s) _) _ _)

theorem does_pairBoth (f : Word → Word → (Word × Word) × BitVec 13) (he : s.effective m = .ok e)
    (hp : s.present (s.sec e) = true) :
    Does (pairBoth f ac m s) s
      [(s.sec e, (f (s.ac ac) (s.peek (s.sec e))).1.1), (acAddr ac, (f (s.ac ac) (s.peek (s.sec e))).1.1),
        (acAddr (ac + 1), (f (s.ac ac) (s.peek (s.sec e))).1.2)]
      (s.flags ||| (f (s.ac ac) (s.peek (s.sec e))).2) s.returnPC := by
  refine does_finish_ok
    (by simp only [bind, Except.bind, operand_ok he hp]; rw [writeMem_ok _ (by simpa using hp)]; rfl) ?_
  exact effect_normal (effect_setAcPair (effect_poke (effect_setFlags (effect_refl s) _) _ _) _ _)

-- Division

theorem effect_noDivideNext (s : State) :
    Effect s s.noDivideNext [] (s.flags ||| noDivideFlags) s.returnPC :=
  effect_normal (effect_setFlags (effect_refl s) _)

theorem divide_eq_some {n d : Int} {k : Nat} (hd : d ≠ 0) (h : n.natAbs < d.natAbs * 2 ^ k) :
    divide n d k = some (n.tdiv d, n.tmod d) := by
  have : noDivide n d k = false := by
    simp only [noDivide, decide_eq_false_iff_not, not_or]
    exact ⟨hd, by omega⟩
  unfold divide
  rw [this]
  rfl

theorem divide_eq_none {n d : Int} {k : Nat} (h : d = 0 ∨ d.natAbs * 2 ^ k ≤ n.natAbs) : divide n d k = none := by
  have : noDivide n d k = true := by
    simp only [noDivide, decide_eq_true_eq]
    exact h
  unfold divide
  rw [this]
  rfl

theorem does_divideBasic {n : Int} {q : Int × Int} (he : s.effective m = .ok e) (hp : s.present (s.sec e) = true)
    (hq : divide n (s.peek (s.sec e)).toInt 35 = some q) :
    Does (divideBasic n ac m s) s [(acAddr ac, (quotientWords q).1), (acAddr (ac + 1), (quotientWords q).2)] s.flags
      s.returnPC := by
  refine does_finish_ok (by simp only [bind, Except.bind, operand_ok he hp, hq]; rfl) ?_
  exact effect_normal (effect_setAcPair (effect_refl s) _ _)

theorem does_divideImmediate {n : Int} {q : Int × Int} (he : s.effective m = .ok e)
    (hq : divide n (immediate e).toInt 35 = some q) :
    Does (divideImmediate n ac m s) s [(acAddr ac, (quotientWords q).1), (acAddr (ac + 1), (quotientWords q).2)]
      s.flags s.returnPC := by
  refine does_finish_ok (by simp only [bind, Except.bind, he, hq]; rfl) ?_
  exact effect_normal (effect_setAcPair (effect_refl s) _ _)

theorem does_divideMemory {n : Int} {q : Int × Int} (he : s.effective m = .ok e) (hp : s.present (s.sec e) = true)
    (hq : divide n (s.peek (s.sec e)).toInt 35 = some q) :
    Does (divideMemory n m s) s [(s.sec e, (quotientWords q).1)] s.flags s.returnPC := by
  refine does_finish_ok (by simp only [bind, Except.bind, operand_ok he hp, hq, writeMem_ok _ hp]; rfl) ?_
  exact effect_normal (effect_poke (effect_refl s) _ _)

theorem does_divideBoth {n : Int} {q : Int × Int} (he : s.effective m = .ok e) (hp : s.present (s.sec e) = true)
    (hq : divide n (s.peek (s.sec e)).toInt 35 = some q) :
    Does (divideBoth n ac m s) s
      [(s.sec e, (quotientWords q).1), (acAddr ac, (quotientWords q).1), (acAddr (ac + 1), (quotientWords q).2)]
      s.flags s.returnPC := by
  refine does_finish_ok (by simp only [bind, Except.bind, operand_ok he hp, hq, writeMem_ok _ hp]; rfl) ?_
  exact effect_normal (effect_setAcPair (effect_poke (effect_refl s) _ _) _ _)

/-- A no-divide in the four modes: flags only. -/
theorem does_divide_none {n : Int} (he : s.effective m = .ok e) :
    (divide n (immediate e).toInt 35 = none →
      Does (divideImmediate n ac m s) s [] (s.flags ||| noDivideFlags) s.returnPC) ∧
    (s.present (s.sec e) = true → divide n (s.peek (s.sec e)).toInt 35 = none →
      Does (divideBasic n ac m s) s [] (s.flags ||| noDivideFlags) s.returnPC ∧
      Does (divideMemory n m s) s [] (s.flags ||| noDivideFlags) s.returnPC ∧
      Does (divideBoth n ac m s) s [] (s.flags ||| noDivideFlags) s.returnPC) := by
  refine ⟨fun h => does_finish_ok (by simp only [bind, Except.bind, he, h]; rfl) (effect_noDivideNext s), fun hp h =>
    ⟨?_, ?_, ?_⟩⟩ <;>
  exact does_finish_ok (by simp only [bind, Except.bind, operand_ok he hp, h]; rfl) (effect_noDivideNext s)

-- Half words, tests, comparisons and jumps

theorem does_halfBasic (d c : Bool) (fill : Fill) (he : s.effective m = .ok e) (hp : s.present (s.sec e) = true) :
    Does (halfBasic d c fill ac m s) s
      [(acAddr ac, halfResult (movedHalf d c (s.peek (s.sec e))) (s.ac ac) d fill)] s.flags s.returnPC := by
  refine does_finish_ok (by simp only [bind, Except.bind, operand_ok he hp]; rfl) ?_
  exact effect_normal (effect_setAc (effect_refl s) _ _)

theorem does_halfImmediate (d c : Bool) (fill : Fill) (he : s.effective m = .ok e) :
    Does (halfImmediate d c fill ac m s) s
      [(acAddr ac, halfResult (movedHalf d c (immediate e)) (s.ac ac) d fill)] s.flags s.returnPC := by
  refine does_finish_ok (by simp only [bind, Except.bind, he]; rfl) ?_
  exact effect_normal (effect_setAc (effect_refl s) _ _)

/-- A fill that replaces the other half does not depend on the old destination. -/
theorem halfResult_old {h : Half} {a b : Word} {d : Bool} {fill : Fill} (hf : fill ≠ .asIs) :
    halfResult h a d fill = halfResult h b d fill := by
  cases fill <;> first | exact absurd rfl hf | rfl

theorem does_halfMemory (d c : Bool) (fill : Fill) (he : s.effective m = .ok e) (hp : s.present (s.sec e) = true) :
    Does (halfMemory d c fill ac m s) s
      [(s.sec e, halfResult (movedHalf d c (s.ac ac)) (s.peek (s.sec e)) d fill)] s.flags s.returnPC := by
  by_cases hf : fill = .asIs
  · subst hf
    refine does_finish_ok
      (by simp only [bind, Except.bind, he, State.oldDestination, if_true, readMem_ok hp, writeMem_ok _ hp]; rfl) ?_
    exact effect_normal (effect_poke (effect_refl s) _ _)
  · refine does_finish_ok
      (by simp only [bind, Except.bind, he, State.oldDestination, if_neg hf, writeMem_ok _ hp]; rfl) ?_
    rw [halfResult_old hf]
    exact effect_normal (effect_poke (effect_refl s) _ _)

theorem does_halfSelf (d c : Bool) (fill : Fill) (he : s.effective m = .ok e) (hp : s.present (s.sec e) = true)
    {r : Word} (hr : r = halfResult (movedHalf d c (s.peek (s.sec e))) (s.peek (s.sec e)) d fill) :
    Does (halfSelf d c fill ac m s) s ((s.sec e, r) :: whenWritten (ac ≠ 0) (acAddr ac, r)) s.flags s.returnPC := by
  subst hr
  refine does_finish_ok (by simp only [bind, Except.bind, operand_ok he hp, writeMem_ok _ hp]; rfl) ?_
  exact effect_normal (effect_setAcUnlessZero (effect_poke (effect_refl s) _ _) _ _)

theorem effect_testModify (s : State) (k : Modify) (c : TestCond) (ac : AcNum) (mask : Word) :
    Effect s (s.testModify k c ac mask) (whenWritten (k ≠ .none) (acAddr ac, k.apply (s.ac ac) mask)) s.flags
      (if c.holds (s.ac ac &&& mask) then skipPC s else s.returnPC) := by
  refine effect_skipIf ?_ _
  unfold State.modifyAc whenWritten
  by_cases hk : k = .none
  · rw [if_pos hk, if_neg (not_not.mpr hk)]
    exact effect_refl s
  · rw [if_neg hk, if_pos hk]
    exact effect_setAc (effect_refl s) _ _

theorem does_testImmediate (mask : Offset → Word) (k : Modify) (c : TestCond) (he : s.effective m = .ok e) :
    Does (testImmediate mask k c ac m s) s (whenWritten (k ≠ .none) (acAddr ac, k.apply (s.ac ac) (mask e))) s.flags
      (if c.holds (s.ac ac &&& mask e) then skipPC s else s.returnPC) :=
  does_finish_ok (by simp only [bind, Except.bind, he]; rfl) (effect_testModify s k c ac _)

theorem does_testMemory (mask : Word → Word) (k : Modify) (c : TestCond) (he : s.effective m = .ok e)
    (hp : s.present (s.sec e) = true) :
    Does (testMemory mask k c ac m s) s
      (whenWritten (k ≠ .none) (acAddr ac, k.apply (s.ac ac) (mask (s.peek (s.sec e))))) s.flags
      (if c.holds (s.ac ac &&& mask (s.peek (s.sec e))) then skipPC s else s.returnPC) :=
  does_finish_ok (by simp only [bind, Except.bind, operand_ok he hp]; rfl) (effect_testModify s k c ac _)

theorem does_compareImmediate (c : Cond) (he : s.effective m = .ok e) :
    Does (compareImmediate c ac m s) s [] s.flags
      (if c.holds ((s.ac ac).toInt - (e.toNat : Int)) then skipPC s else s.returnPC) :=
  does_finish_ok (by simp only [bind, Except.bind, he]; rfl) (effect_skipIf (effect_refl s) _)

theorem does_compareMemory (c : Cond) (he : s.effective m = .ok e) (hp : s.present (s.sec e) = true) :
    Does (compareMemory c ac m s) s [] s.flags
      (if c.holds ((s.ac ac).toInt - (s.peek (s.sec e)).toInt) then skipPC s else s.returnPC) :=
  does_finish_ok (by simp only [bind, Except.bind, operand_ok he hp]; rfl) (effect_skipIf (effect_refl s) _)

theorem does_jumpOnAc (c : Cond) (he : s.effective m = .ok e) :
    Does (jumpOnAc c ac m s) s [] s.flags (if c.holds (s.ac ac).toInt then s.sec e else s.returnPC) :=
  does_finish_ok (by simp only [bind, Except.bind, he]; rfl) (effect_jumpIf (effect_refl s) _ _)

theorem does_skipOnMemory (c : Cond) (he : s.effective m = .ok e) (hp : s.present (s.sec e) = true) :
    Does (skipOnMemory c ac m s) s (whenWritten (ac ≠ 0) (acAddr ac, s.peek (s.sec e))) s.flags
      (if c.holds (s.peek (s.sec e)).toInt then skipPC s else s.returnPC) :=
  does_finish_ok (by simp only [bind, Except.bind, operand_ok he hp]; rfl)
    (effect_skipIf (effect_setAcUnlessZero (effect_refl s) _ _) _)

theorem does_stepAndJump (f : Word → Word × BitVec 13) (c : Cond) (he : s.effective m = .ok e) :
    Does (stepAndJump f c ac m s) s [(acAddr ac, (f (s.ac ac)).1)] (s.flags ||| (f (s.ac ac)).2)
      (if c.holds (f (s.ac ac)).1.toInt then s.sec e else s.returnPC) :=
  does_finish_ok (by simp only [bind, Except.bind, he]; rfl)
    (effect_jumpIf (effect_setAc (effect_setFlags (effect_refl s) _) _ _) _ _)

theorem does_stepAndSkip (f : Word → Word × BitVec 13) (c : Cond) (he : s.effective m = .ok e)
    (hp : s.present (s.sec e) = true) {r : Word × BitVec 13} (hr : r = f (s.peek (s.sec e))) :
    Does (stepAndSkip f c ac m s) s ((s.sec e, r.1) :: whenWritten (ac ≠ 0) (acAddr ac, r.1)) (s.flags ||| r.2)
      (if c.holds r.1.toInt then skipPC s else s.returnPC) := by
  subst hr
  refine does_finish_ok
    (by simp only [bind, Except.bind, operand_ok he hp]; rw [writeMem_ok _ (by simpa using hp)]; rfl) ?_
  exact effect_skipIf (effect_setAcUnlessZero (effect_poke (effect_setFlags (effect_refl s) _) _ _) _ _) _

-- Shifts

theorem does_shiftOne_zero (f : Int → Word → Word × BitVec 13) (he : s.effective m = .ok e)
    (hn : shiftCount e 36 = 0) : Does (shiftOne f ac m s) s [] s.flags s.returnPC :=
  does_finish_ok (by simp only [bind, Except.bind, he, hn, if_true]; rfl) (effect_normal (effect_refl s))

theorem does_shiftOne (f : Int → Word → Word × BitVec 13) (he : s.effective m = .ok e) (hn : shiftCount e 36 ≠ 0) :
    Does (shiftOne f ac m s) s [(acAddr ac, (f (shiftCount e 36) (s.ac ac)).1)]
      (s.flags ||| (f (shiftCount e 36) (s.ac ac)).2) s.returnPC :=
  does_finish_ok (by simp only [bind, Except.bind, he, if_neg hn]; rfl)
    (effect_normal (effect_setAc (effect_setFlags (effect_refl s) _) _ _))

theorem does_shiftTwo_zero (f : Int → Word → Word → (Word × Word) × BitVec 13) (he : s.effective m = .ok e)
    (hn : shiftCount e 72 = 0) : Does (shiftTwo f ac m s) s [] s.flags s.returnPC :=
  does_finish_ok (by simp only [bind, Except.bind, he, hn, if_true]; rfl) (effect_normal (effect_refl s))

theorem does_shiftTwo (f : Int → Word → Word → (Word × Word) × BitVec 13) (he : s.effective m = .ok e)
    (hn : shiftCount e 72 ≠ 0) {r : (Word × Word) × BitVec 13} (hr : r = f (shiftCount e 72) (s.ac ac) (s.ac (ac + 1))) :
    Does (shiftTwo f ac m s) s [(acAddr ac, r.1.1), (acAddr (ac + 1), r.1.2)] (s.flags ||| r.2) s.returnPC := by
  subst hr
  exact does_finish_ok (by simp only [bind, Except.bind, he, if_neg hn]; rfl)
    (effect_normal (effect_setAcPair (effect_setFlags (effect_refl s) _) _ _))

-- Monitor calls

theorem muuoIndex_eq (s : State) : s.params.uptBase + 0o430 + s.muuoIndex = muuoVector s := by
  unfold State.muuoIndex muuoVector inCycle
  cases s.flag .usr <;> cases s.flag .pub <;> (rcases s.exceptionCycle with _ | ⟨_ | _, _⟩) <;> rfl

/-- `raise MUUO` when its three process-table words exist. -/
theorem does_raiseMuuo {head : BitVec 13} (h : MuuoPossible s) :
    Does (finish (s.raiseMuuo head e)) s (muuoWrites s head e)
      (headField (overwrite s.peek (muuoWrites s head e) (muuoVector s)))
      (s.sec (rh (overwrite s.peek (muuoWrites s head e) (muuoVector s)))) := by
  obtain ⟨h1, h2, h3⟩ := h
  have hf := effect_poke (effect_poke (effect_refl s) (s.params.uptBase + 0o424) (callWord head e))
    (s.params.uptBase + 0o425) (s.pcFlagsWord s.returnPC)
  have hv : ∀ t : State, Effect s t (muuoWrites s head e) s.flags s.pc → muuoVector t = muuoVector s := by
    intro t ht
    unfold muuoVector inCycle State.flag
    rw [ht.control.params, ht.flags, ht.control.exceptionCycle]
  generalize ht : (s.poke (s.params.uptBase + 0o424) (callWord head e)).poke (s.params.uptBase + 0o425)
    (s.pcFlagsWord s.returnPC) = t at hf
  have hf : Effect s t (muuoWrites s head e) s.flags s.pc := hf
  have hok : s.raiseMuuo head e = .ok ({ t with flags := headField (t.peek (muuoVector s)) }.jumpTo
      (rh (t.peek (muuoVector s)))) := by
    unfold State.raiseMuuo
    simp only [bind, Except.bind, writeMem_ok _ h1]
    have h2' : (s.poke (s.params.uptBase + 0o424) (callWord head e)).writeMem (s.params.uptBase + 0o425)
        (s.pcFlagsWord s.returnPC) = .ok t := by
      rw [← ht]
      exact writeMem_ok _ (by simpa using h2)
    have hw : (s.poke (s.params.uptBase + 0o424) (callWord head e)).pcFlagsWord
        (s.poke (s.params.uptBase + 0o424) (callWord head e)).returnPC = s.pcFlagsWord s.returnPC := by
      rw [State.poke_returnPC, State.pcFlagsWord, State.pcFlagsWord, State.poke_flags]
    simp only [State.poke_params, hw, h2', muuoIndex_eq, hv t hf]
    rw [readMem_ok (by rw [effect_present hf]; exact h3)]
    rfl
  refine does_finish_ok hok ?_
  rw [effect_peek hf]
  exact effect_jumpTo (effect_withFlags hf _) _

theorem does_monitorCall {op : BitVec 9} (he : s.effective m = .ok e) (h : MuuoPossible s) :
    Does (monitorCall op ac m s) s (muuoWrites s (op ++ ac) e)
      (headField (overwrite s.peek (muuoWrites s (op ++ ac) e) (muuoVector s)))
      (s.sec (rh (overwrite s.peek (muuoWrites s (op ++ ac) e) (muuoVector s)))) := by
  unfold monitorCall
  simp only [bind, Except.bind, he]
  exact does_raiseMuuo h

theorem does_unassignedCall {op : BitVec 9} (he : s.effective m = .ok e) (hu : s.params.unassignedPolicy = .muuo)
    (h : MuuoPossible s) :
    Does (unassignedCall op ac m s) s (muuoWrites s (op ++ ac) e)
      (headField (overwrite s.peek (muuoWrites s (op ++ ac) e) (muuoVector s)))
      (s.sec (rh (overwrite s.peek (muuoWrites s (op ++ ac) e) (muuoVector s)))) := by
  unfold unassignedCall State.raiseUnassigned
  simp only [bind, Except.bind, he, hu]
  exact does_raiseMuuo h

theorem unassignedCall_refused {op : BitVec 9} (he : s.effective m = .ok e) (hu : s.params.unassignedPolicy = .refuse) :
    unassignedCall op ac m s = .fault (.unassignedOpcode (op ++ ac)) := by
  unfold unassignedCall State.raiseUnassigned
  simp only [bind, Except.bind, he, hu]
  rfl

end Sys2Proof.Machine
end

