-- ==== Sys2Proof/Laws/Keeps.lean ====
section
/-!
SUPPORT. What a next state keeps: `Keeps` is what every meaning keeps, `Ordinary` what every meaning keeps that is no
monitor call, no flag restore, no dismiss, no halt and no I/O. One lemma per update of the state, then one per operand
form: if it answers next, it was ordinary.
-/

namespace Sys2Proof.Machine

/-- The mode flags (R660, R661). -/
def modeMask : BitVec 13 := flagMask [.usr, .uio, .pub]

/-- What every meaning keeps: the bank selector, PAGING_EN, the parameters, ICOUNT, the exception cycle, the inactive
banks, the form of memory, the section of PC and the devices' numbers. -/
structure Keeps (s t : State) : Prop where
  acblk : t.acblk = s.acblk
  pagingEn : t.pagingEn = s.pagingEn
  params : t.params = s.params
  icount : t.icount = s.icount
  exceptionCycle : t.exceptionCycle = s.exceptionCycle
  banks : ∀ b r, b ≠ s.acblk → bankWord t b r = bankWord s b r
  canonical : Memory.wf s.mem = true → Memory.wf t.mem = true
  inRange : (∀ p ∈ s.mem, p.1 < s.params.memWords) → ∀ p ∈ t.mem, p.1 < s.params.memWords
  pcSection : (∀ x, s.exceptionCycle = some x → sectionOf x.pc = sectionOf s.pc) → sectionOf t.pc = sectionOf s.pc
  registry : t.devices.map (fun d => d.id) = s.devices.map (fun d => d.id)

/-- What an ordinary meaning keeps besides: RUNNING, the controller, the registry, the device interface and the mode
flags. -/
structure Ordinary (s t : State) : Prop extends Keeps s t where
  running : t.running = s.running
  pi : t.pi = s.pi
  devices : t.devices = s.devices
  ioLog : t.ioLog = s.ioLog
  modes : t.flags &&& modeMask = s.flags &&& modeMask

theorem keeps_refl (s : State) : Keeps s s :=
  ⟨rfl, rfl, rfl, rfl, rfl, fun _ _ _ => rfl, id, id, fun _ => rfl, rfl⟩

theorem ordinary_refl (s : State) : Ordinary s s := ⟨keeps_refl s, rfl, rfl, rfl, rfl, rfl⟩

theorem keeps_trans {s t u : State} (h : Keeps s t) (k : Keeps t u) : Keeps s u where
  acblk := k.acblk.trans h.acblk
  pagingEn := k.pagingEn.trans h.pagingEn
  params := k.params.trans h.params
  icount := k.icount.trans h.icount
  exceptionCycle := k.exceptionCycle.trans h.exceptionCycle
  banks b r hb := (k.banks b r (by rw [h.acblk]; exact hb)).trans (h.banks b r hb)
  canonical hm := k.canonical (h.canonical hm)
  inRange hm := by
    have := k.inRange
    rw [h.params] at this
    exact this (h.inRange hm)
  pcSection hx := by
    refine (k.pcSection ?_).trans (h.pcSection hx)
    intro x hxt
    rw [h.exceptionCycle] at hxt
    rw [hx x hxt, h.pcSection hx]
  registry := k.registry.trans h.registry

theorem ordinary_trans {s t u : State} (h : Ordinary s t) (k : Ordinary t u) : Ordinary s u :=
  ⟨keeps_trans h.toKeeps k.toKeeps, k.running.trans h.running, k.pi.trans h.pi, k.devices.trans h.devices,
    k.ioLog.trans h.ioLog, k.modes.trans h.modes⟩

/-- The mode flags one by one. -/
theorem ordinary_flag {s t : State} (h : Ordinary s t) :
    t.flag .usr = s.flag .usr ∧ t.flag .pub = s.flag .pub ∧ t.flag .uio = s.flag .uio := by
  have key : ∀ f : Flag, hasFlag modeMask f = true → t.flag f = s.flag f := by
    intro f hf
    have := congrArg (fun v => hasFlag v f) h.modes
    simp only [hasFlag_and, hf, Bool.and_true] at this
    exact this
  exact ⟨key _ (by decide), key _ (by decide), key _ (by decide)⟩

-- Updates

variable {s t : State}

theorem ordinary_poke (h : Ordinary s t) (a : VAddr) (v : Word) (ha : t.present a = true) : Ordinary s (t.poke a v) := by
  refine ordinary_trans h ⟨⟨by simp, by simp, by simp, by simp, by simp, fun b r hb => bankWord_poke t a v b r hb,
    wf_poke t a v, fun hm => ?_, fun _ => by simp, by simp⟩, by simp, by simp, by simp, by simp, by simp⟩
  exact inRange_poke t a v hm ha

theorem ordinary_setAc (h : Ordinary s t) (r : AcNum) (v : Word) : Ordinary s (t.setAc r v) := by
  rw [setAc_eq_poke]
  exact ordinary_poke h _ _ (by simp [State.present])

theorem ordinary_setAcUnlessZero (h : Ordinary s t) (r : AcNum) (v : Word) : Ordinary s (t.setAcUnlessZero r v) := by
  unfold State.setAcUnlessZero
  split
  · exact h
  · exact ordinary_setAc h r v

theorem ordinary_setAcPair (h : Ordinary s t) (r : AcNum) (v : Word × Word) : Ordinary s (t.setAcPair r v) :=
  ordinary_setAc (ordinary_setAc h _ _) _ _

theorem ordinary_setAcQuad (h : Ordinary s t) (r : AcNum) (v : Word × Word × Word × Word) :
    Ordinary s (t.setAcQuad r v) :=
  ordinary_setAc (ordinary_setAc (ordinary_setAc (ordinary_setAc h _ _) _ _) _ _) _ _

/-- Any change of FLAGS that keeps the mode flags. -/
theorem ordinary_withFlags (h : Ordinary s t) (f : BitVec 13) (hf : f &&& modeMask = t.flags &&& modeMask) :
    Ordinary s { t with flags := f } :=
  ordinary_trans h ⟨⟨rfl, rfl, rfl, rfl, rfl, fun _ _ _ => rfl, id, id, fun _ => rfl, rfl⟩, rfl, rfl, rfl, rfl, hf⟩

theorem ordinary_setFlags (h : Ordinary s t) {k : BitVec 13} (hk : k &&& modeMask = 0) : Ordinary s (t.setFlags k) :=
  ordinary_withFlags h _ (by
    have : (t.flags ||| k) &&& modeMask = (t.flags &&& modeMask) ||| (k &&& modeMask) := by
      ext i hi
      simp [Bool.and_or_distrib_right]
    rw [this, hk]
    simp)

theorem ordinary_clearFlags (h : Ordinary s t) {k : BitVec 13} (hk : k &&& modeMask = 0) :
    Ordinary s (t.clearFlags k) :=
  ordinary_withFlags h _ (by
    ext i hi
    have := congrArg (fun v : BitVec 13 => v.getLsbD i) hk
    simp [hi] at this
    simp
    cases hx : k[i] <;> simp_all)

theorem ordinary_setTrap2If (h : Ordinary s t) (c : Bool) : Ordinary s (t.setTrap2If c) := by
  cases c
  · exact h
  · exact ordinary_setFlags h (by decide)

/-- Any change of PC inside its section. -/
theorem ordinary_withPc (h : Ordinary s t) (q : VAddr)
    (hq : (∀ x, t.exceptionCycle = some x → sectionOf x.pc = sectionOf t.pc) → sectionOf q = sectionOf t.pc) :
    Ordinary s { t with pc := q } :=
  ordinary_trans h ⟨⟨rfl, rfl, rfl, rfl, rfl, fun _ _ _ => rfl, id, id, hq, rfl⟩, rfl, rfl, rfl, rfl, rfl⟩

theorem sectionOf_inSection (a : VAddr) (o : Offset) : sectionOf (inSection a o) = sectionOf a := sectionOf_append _ _

theorem ordinary_normal (h : Ordinary s t) : Ordinary s t.normal := by
  refine ordinary_withPc h _ ?_
  unfold State.returnPC
  intro hx
  cases hc : t.exceptionCycle with
  | none => exact sectionOf_inSection _ _
  | some x => exact hx x hc

theorem ordinary_skipNext (h : Ordinary s t) : Ordinary s t.skipNext :=
  ordinary_withPc h _ (fun _ => sectionOf_inSection _ _)

theorem ordinary_jumpTo (h : Ordinary s t) (o : Offset) : Ordinary s (t.jumpTo o) :=
  ordinary_withPc h _ (fun _ => sectionOf_inSection _ _)

theorem ordinary_skipIf (h : Ordinary s t) (c : Bool) : Ordinary s (t.skipIf c) := by
  cases c
  · exact ordinary_normal h
  · exact ordinary_skipNext h

theorem ordinary_jumpIf (h : Ordinary s t) (c : Bool) (o : Offset) : Ordinary s (t.jumpIf c o) := by
  cases c
  · exact ordinary_normal h
  · exact ordinary_jumpTo h o

theorem ordinary_redispatchWith (h : Ordinary s t) (w : Word) : Ordinary s (t.redispatchWith w) :=
  ordinary_trans h
    ⟨⟨rfl, rfl, rfl, rfl, rfl, fun _ _ _ => rfl, id, id, fun _ => rfl, rfl⟩, rfl, rfl, rfl, rfl, rfl⟩

-- Sequencing

/-- A next state of a sequence comes from an answer of its first part. -/
theorem finish_bind {α : Type} {x : Except Fault α} {f : α → Except Fault State}
    (h : finish (x >>= f) = .next t) : ∃ a, x = .ok a ∧ finish (f a) = .next t := by
  cases x with
  | error e => cases h
  | ok a => exact ⟨a, rfl, h⟩

theorem finish_ok {u : State} (h : finish (.ok u) = .next t) : u = t := by
  cases h
  rfl

theorem finish_pure {u : State} (h : finish (pure u) = .next t) : u = t := finish_ok h

theorem finish_eq_next {x : Except Fault State} (h : finish x = .next t) : x = .ok t := by
  cases x with
  | error e => cases h
  | ok a => rw [finish_ok h]

theorem ordinary_writeMem {u : State} (h : Ordinary s t) {a : VAddr} {v : Word} (hw : t.writeMem a v = .ok u) :
    Ordinary s u := by
  obtain ⟨hp, rfl⟩ := writeMem_eq_ok hw
  exact ordinary_poke h a v hp

theorem ordinary_writeMem2 {u : State} (h : Ordinary s t) {a : VAddr} {v : Word × Word}
    (hw : t.writeMem2 a v = .ok u) : Ordinary s u := by
  unfold State.writeMem2 at hw
  cases h1 : t.writeMem a v.1 with
  | error f => simp [h1, bind, Except.bind] at hw
  | ok t1 =>
    rw [h1] at hw
    exact ordinary_writeMem (ordinary_writeMem h h1) hw

-- The flags that the arithmetic unit sets hold no mode flag

theorem carryFlags_modes (a b : Bool) : carryFlags a b &&& modeMask = 0 := by
  cases a <;> cases b <;> decide

theorem add36_modes (a b : Word) : (add36 a b).2 &&& modeMask = 0 := carryFlags_modes _ _

theorem sub36_modes (a b : Word) : (sub36 a b).2 &&& modeMask = 0 := carryFlags_modes _ _

theorem add71_modes (a b : BitVec 71) : (add71 a b).2 &&& modeMask = 0 := carryFlags_modes _ _

theorem sub71_modes (a b : BitVec 71) : (sub71 a b).2 &&& modeMask = 0 := carryFlags_modes _ _

theorem neg36_modes (a : Word) : (neg36 a).2 &&& modeMask = 0 := sub36_modes 0 a

theorem magnitude36_modes (a : Word) : (magnitude36 a).2 &&& modeMask = 0 := by
  unfold magnitude36
  split
  · exact neg36_modes a
  · exact BitVec.zero_and

theorem noDivideFlags_modes : noDivideFlags &&& modeMask = 0 := by decide

theorem overflowFlags_modes (c : Prop) [Decidable c] : (if c then overflowFlags else 0) &&& modeMask = 0 := by
  split <;> decide

-- The operand forms: if it answers next, it was ordinary

variable {m : AddrPart} {ac : AcNum}

theorem ordinary_unaryBasic {f : Word → Word × BitVec 13} (hf : ∀ w, (f w).2 &&& modeMask = 0)
    (h : unaryBasic f ac m s = .next t) : Ordinary s t := by
  obtain ⟨x, _, h⟩ := finish_bind h
  rw [← finish_pure h]
  exact ordinary_normal (ordinary_setAc (ordinary_setFlags (ordinary_refl s) (hf _)) _ _)

theorem ordinary_unaryImmediate {f : Word → Word × BitVec 13} (hf : ∀ w, (f w).2 &&& modeMask = 0)
    (h : unaryImmediate f ac m s = .next t) : Ordinary s t := by
  obtain ⟨x, _, h⟩ := finish_bind h
  rw [← finish_pure h]
  exact ordinary_normal (ordinary_setAc (ordinary_setFlags (ordinary_refl s) (hf _)) _ _)

theorem ordinary_unaryMemory {f : Word → Word × BitVec 13} (hf : ∀ w, (f w).2 &&& modeMask = 0)
    (h : unaryMemory f ac m s = .next t) : Ordinary s t := by
  obtain ⟨e, _, h⟩ := finish_bind h
  obtain ⟨u, hu, h⟩ := finish_bind h
  rw [← finish_pure h]
  exact ordinary_normal (ordinary_writeMem (ordinary_setFlags (ordinary_refl s) (hf _)) hu)

theorem ordinary_unarySelf {f : Word → Word × BitVec 13} (hf : ∀ w, (f w).2 &&& modeMask = 0)
    (h : unarySelf f ac m s = .next t) : Ordinary s t := by
  obtain ⟨x, _, h⟩ := finish_bind h
  obtain ⟨u, hu, h⟩ := finish_bind h
  rw [← finish_pure h]
  exact ordinary_normal (ordinary_setAcUnlessZero (ordinary_writeMem (ordinary_setFlags (ordinary_refl s) (hf _)) hu) _ _)

theorem ordinary_binaryBasic {f : Word → Word → Word × BitVec 13} (hf : ∀ a b, (f a b).2 &&& modeMask = 0)
    (h : binaryBasic f ac m s = .next t) : Ordinary s t := by
  obtain ⟨x, _, h⟩ := finish_bind h
  rw [← finish_pure h]
  exact ordinary_normal (ordinary_setAc (ordinary_setFlags (ordinary_refl s) (hf _ _)) _ _)

theorem ordinary_binaryImmediate {f : Word → Word → Word × BitVec 13} (hf : ∀ a b, (f a b).2 &&& modeMask = 0)
    (h : binaryImmediate f ac m s = .next t) : Ordinary s t := by
  obtain ⟨x, _, h⟩ := finish_bind h
  rw [← finish_pure h]
  exact ordinary_normal (ordinary_setAc (ordinary_setFlags (ordinary_refl s) (hf _ _)) _ _)

theorem ordinary_binaryMemory {f : Word → Word → Word × BitVec 13} (hf : ∀ a b, (f a b).2 &&& modeMask = 0)
    (h : binaryMemory f ac m s = .next t) : Ordinary s t := by
  obtain ⟨x, _, h⟩ := finish_bind h
  obtain ⟨u, hu, h⟩ := finish_bind h
  rw [← finish_pure h]
  exact ordinary_normal (ordinary_writeMem (ordinary_setFlags (ordinary_refl s) (hf _ _)) hu)

theorem ordinary_binaryBoth {f : Word → Word → Word × BitVec 13} (hf : ∀ a b, (f a b).2 &&& modeMask = 0)
    (h : binaryBoth f ac m s = .next t) : Ordinary s t := by
  obtain ⟨x, _, h⟩ := finish_bind h
  obtain ⟨u, hu, h⟩ := finish_bind h
  rw [← finish_pure h]
  exact ordinary_normal (ordinary_setAc (ordinary_writeMem (ordinary_setFlags (ordinary_refl s) (hf _ _)) hu) _ _)

theorem ordinary_pairBasic {f : Word → Word → (Word × Word) × BitVec 13} (hf : ∀ a b, (f a b).2 &&& modeMask = 0)
    (h : pairBasic f ac m s = .next t) : Ordinary s t := by
  obtain ⟨x, _, h⟩ := finish_bind h
  rw [← finish_pure h]
  exact ordinary_normal (ordinary_setAcPair (ordinary_setFlags (ordinary_refl s) (hf _ _)) _ _)

theorem ordinary_pairImmediate {f : Word → Word → (Word × Word) × BitVec 13}
    (hf : ∀ a b, (f a b).2 &&& modeMask = 0) (h : pairImmediate f ac m s = .next t) : Ordinary s t := by
  obtain ⟨x, _, h⟩ := finish_bind h
  rw [← finish_pure h]
  exact ordinary_normal (ordinary_setAcPair (ordinary_setFlags (ordinary_refl s) (hf _ _)) _ _)

theorem ordinary_pairMemory {f : Word → Word → (Word × Word) × BitVec 13} (hf : ∀ a b, (f a b).2 &&& modeMask = 0)
    (h : pairMemory f ac m s = .next t) : Ordinary s t := by
  obtain ⟨x, _, h⟩ := finish_bind h
  obtain ⟨u, hu, h⟩ := finish_bind h
  rw [← finish_pure h]
  exact ordinary_normal (ordinary_writeMem (ordinary_setFlags (ordinary_refl s) (hf _ _)) hu)

theorem ordinary_pairBoth {f : Word → Word → (Word × Word) × BitVec 13} (hf : ∀ a b, (f a b).2 &&& modeMask = 0)
    (h : pairBoth f ac m s = .next t) : Ordinary s t := by
  obtain ⟨x, _, h⟩ := finish_bind h
  obtain ⟨u, hu, h⟩ := finish_bind h
  rw [← finish_pure h]
  exact ordinary_normal (ordinary_setAcPair (ordinary_writeMem (ordinary_setFlags (ordinary_refl s) (hf _ _)) hu) _ _)

theorem ordinary_noDivideNext (s : State) : Ordinary s s.noDivideNext :=
  ordinary_normal (ordinary_setFlags (ordinary_refl s) noDivideFlags_modes)

theorem ordinary_divideBasic {n : Int} (h : divideBasic n ac m s = .next t) : Ordinary s t := by
  obtain ⟨x, _, h⟩ := finish_bind h
  cases hq : divide n x.2.toInt 35 with
  | none =>
    rw [hq] at h
    rw [← finish_pure h]
    exact ordinary_noDivideNext s
  | some q =>
    rw [hq] at h
    rw [← finish_pure h]
    exact ordinary_normal (ordinary_setAcPair (ordinary_refl s) _ _)

theorem ordinary_divideImmediate {n : Int} (h : divideImmediate n ac m s = .next t) : Ordinary s t := by
  obtain ⟨e, _, h⟩ := finish_bind h
  cases hq : divide n (immediate e).toInt 35 with
  | none =>
    rw [hq] at h
    rw [← finish_pure h]
    exact ordinary_noDivideNext s
  | some q =>
    rw [hq] at h
    rw [← finish_pure h]
    exact ordinary_normal (ordinary_setAcPair (ordinary_refl s) _ _)

theorem ordinary_divideMemory {n : Int} (h : divideMemory n m s = .next t) : Ordinary s t := by
  obtain ⟨x, _, h⟩ := finish_bind h
  cases hq : divide n x.2.toInt 35 with
  | none =>
    rw [hq] at h
    rw [← finish_pure h]
    exact ordinary_noDivideNext s
  | some q =>
    rw [hq] at h
    obtain ⟨u, hu, h⟩ := finish_bind h
    rw [← finish_pure h]
    exact ordinary_normal (ordinary_writeMem (ordinary_refl s) hu)

theorem ordinary_divideBoth {n : Int} (h : divideBoth n ac m s = .next t) : Ordinary s t := by
  obtain ⟨x, _, h⟩ := finish_bind h
  cases hq : divide n x.2.toInt 35 with
  | none =>
    rw [hq] at h
    rw [← finish_pure h]
    exact ordinary_noDivideNext s
  | some q =>
    rw [hq] at h
    obtain ⟨u, hu, h⟩ := finish_bind h
    rw [← finish_pure h]
    exact ordinary_normal (ordinary_setAcPair (ordinary_writeMem (ordinary_refl s) hu) _ _)

theorem ordinary_halfBasic {d c : Bool} {fill : Fill} (h : halfBasic d c fill ac m s = .next t) : Ordinary s t := by
  obtain ⟨x, _, h⟩ := finish_bind h
  rw [← finish_pure h]
  exact ordinary_normal (ordinary_setAc (ordinary_refl s) _ _)

theorem ordinary_halfImmediate {d c : Bool} {fill : Fill} (h : halfImmediate d c fill ac m s = .next t) :
    Ordinary s t := by
  obtain ⟨e, _, h⟩ := finish_bind h
  rw [← finish_pure h]
  exact ordinary_normal (ordinary_setAc (ordinary_refl s) _ _)

theorem ordinary_halfMemory {d c : Bool} {fill : Fill} (h : halfMemory d c fill ac m s = .next t) : Ordinary s t := by
  obtain ⟨e, _, h⟩ := finish_bind h
  obtain ⟨w, _, h⟩ := finish_bind h
  obtain ⟨u, hu, h⟩ := finish_bind h
  rw [← finish_pure h]
  exact ordinary_normal (ordinary_writeMem (ordinary_refl s) hu)

theorem ordinary_halfSelf {d c : Bool} {fill : Fill} (h : halfSelf d c fill ac m s = .next t) : Ordinary s t := by
  obtain ⟨x, _, h⟩ := finish_bind h
  obtain ⟨u, hu, h⟩ := finish_bind h
  rw [← finish_pure h]
  exact ordinary_normal (ordinary_setAcUnlessZero (ordinary_writeMem (ordinary_refl s) hu) _ _)

theorem ordinary_testModify (s : State) (k : Modify) (c : TestCond) (ac : AcNum) (mask : Word) :
    Ordinary s (s.testModify k c ac mask) := by
  refine ordinary_skipIf ?_ _
  unfold State.modifyAc
  split
  · exact ordinary_refl s
  · exact ordinary_setAc (ordinary_refl s) _ _

theorem ordinary_testImmediate {mask : Offset → Word} {k : Modify} {c : TestCond}
    (h : testImmediate mask k c ac m s = .next t) : Ordinary s t := by
  obtain ⟨e, _, h⟩ := finish_bind h
  rw [← finish_pure h]
  exact ordinary_testModify s _ _ _ _

theorem ordinary_testMemory {mask : Word → Word} {k : Modify} {c : TestCond}
    (h : testMemory mask k c ac m s = .next t) : Ordinary s t := by
  obtain ⟨x, _, h⟩ := finish_bind h
  rw [← finish_pure h]
  exact ordinary_testModify s _ _ _ _

theorem ordinary_compareImmediate {c : Cond} (h : compareImmediate c ac m s = .next t) : Ordinary s t := by
  obtain ⟨e, _, h⟩ := finish_bind h
  rw [← finish_pure h]
  exact ordinary_skipIf (ordinary_refl s) _

theorem ordinary_compareMemory {c : Cond} (h : compareMemory c ac m s = .next t) : Ordinary s t := by
  obtain ⟨x, _, h⟩ := finish_bind h
  rw [← finish_pure h]
  exact ordinary_skipIf (ordinary_refl s) _

theorem ordinary_jumpOnAc {c : Cond} (h : jumpOnAc c ac m s = .next t) : Ordinary s t := by
  obtain ⟨e, _, h⟩ := finish_bind h
  rw [← finish_pure h]
  exact ordinary_jumpIf (ordinary_refl s) _ _

theorem ordinary_skipOnMemory {c : Cond} (h : skipOnMemory c ac m s = .next t) : Ordinary s t := by
  obtain ⟨x, _, h⟩ := finish_bind h
  rw [← finish_pure h]
  exact ordinary_skipIf (ordinary_setAcUnlessZero (ordinary_refl s) _ _) _

theorem ordinary_stepAndJump {f : Word → Word × BitVec 13} {c : Cond} (hf : ∀ w, (f w).2 &&& modeMask = 0)
    (h : stepAndJump f c ac m s = .next t) : Ordinary s t := by
  obtain ⟨e, _, h⟩ := finish_bind h
  rw [← finish_pure h]
  exact ordinary_jumpIf (ordinary_setAc (ordinary_setFlags (ordinary_refl s) (hf _)) _ _) _ _

theorem ordinary_stepAndSkip {f : Word → Word × BitVec 13} {c : Cond} (hf : ∀ w, (f w).2 &&& modeMask = 0)
    (h : stepAndSkip f c ac m s = .next t) : Ordinary s t := by
  obtain ⟨x, _, h⟩ := finish_bind h
  obtain ⟨u, hu, h⟩ := finish_bind h
  rw [← finish_pure h]
  exact ordinary_skipIf
    (ordinary_setAcUnlessZero (ordinary_writeMem (ordinary_setFlags (ordinary_refl s) (hf _)) hu) _ _) _

theorem ordinary_addBothAndJump {b : Bool} (h : addBothAndJump b ac m s = .next t) : Ordinary s t := by
  obtain ⟨e, _, h⟩ := finish_bind h
  rw [← finish_pure h]
  exact ordinary_jumpIf (ordinary_setAc (ordinary_refl s) _ _) _ _

theorem ordinary_shiftOne {f : Int → Word → Word × BitVec 13} (hf : ∀ n a, (f n a).2 &&& modeMask = 0)
    (h : shiftOne f ac m s = .next t) : Ordinary s t := by
  obtain ⟨e, _, h⟩ := finish_bind h
  by_cases hn : shiftCount e 36 = 0
  · simp only [hn, if_true] at h
    rw [← finish_pure h]
    exact ordinary_normal (ordinary_refl s)
  · simp only [hn, if_false] at h
    rw [← finish_pure h]
    exact ordinary_normal (ordinary_setAc (ordinary_setFlags (ordinary_refl s) (hf _ _)) _ _)

theorem ordinary_shiftTwo {f : Int → Word → Word → (Word × Word) × BitVec 13}
    (hf : ∀ n a b, (f n a b).2 &&& modeMask = 0) (h : shiftTwo f ac m s = .next t) : Ordinary s t := by
  obtain ⟨e, _, h⟩ := finish_bind h
  by_cases hn : shiftCount e 72 = 0
  · simp only [hn, if_true] at h
    rw [← finish_pure h]
    exact ordinary_normal (ordinary_refl s)
  · simp only [hn, if_false] at h
    rw [← finish_pure h]
    exact ordinary_normal (ordinary_setAcPair (ordinary_setFlags (ordinary_refl s) (hf _ _ _)) _ _)

theorem ordinary_plainJump (h : plainJump m s = .next t) : Ordinary s t := by
  obtain ⟨e, _, h⟩ := finish_bind h
  rw [← finish_pure h]
  exact ordinary_jumpTo (ordinary_refl s) _

theorem ordinary_localCall {op : BitVec 9} (h : localCall op ac m s = .next t) : Ordinary s t := by
  obtain ⟨e, _, h⟩ := finish_bind h
  obtain ⟨u, hu, h⟩ := finish_bind h
  obtain ⟨w, _, h⟩ := finish_bind h
  rw [← finish_pure h]
  exact ordinary_redispatchWith (ordinary_writeMem (ordinary_refl s) hu) _

theorem ordinary_copyBlock {n : Nat} {src dst : Offset} {u : State} (h : Ordinary s t)
    (hc : t.copyBlock n src dst = .ok u) : Ordinary s u := by
  induction n generalizing t src dst with
  | zero =>
    cases hc
    exact h
  | succ k ih =>
    unfold State.copyBlock at hc
    obtain ⟨w, _, hc⟩ := finish_bind (t := u) (congrArg finish hc)
    obtain ⟨v, hv, hc⟩ := finish_bind hc
    exact ih (ordinary_writeMem h hv) (finish_eq_next hc)

theorem ordinary_incPointer {u : State} {e : Offset} (h : s.incPointer e = .ok u) : Ordinary s u := by
  unfold State.incPointer at h
  obtain ⟨w, _, h⟩ := finish_bind (t := u) (congrArg finish h)
  cases hk : pointerKind w with
  | local1 =>
    simp only [hk] at h
    split at h <;> exact ordinary_writeMem (ordinary_refl s) (finish_eq_next h)
  | global1 =>
    simp only [hk] at h
    obtain ⟨x, _, h⟩ := finish_bind h
    exact ordinary_writeMem (ordinary_refl s) (finish_eq_next h)
  | global2 =>
    simp only [hk] at h
    split at h
    · exact ordinary_writeMem (ordinary_refl s) (finish_eq_next h)
    · obtain ⟨w2, _, h⟩ := finish_bind h
      obtain ⟨v, hv, h⟩ := finish_bind h
      exact ordinary_writeMem (ordinary_writeMem (ordinary_refl s) hv) (finish_eq_next h)

theorem ordinary_firstPart {u : State} {e : Offset} (h : s.firstPart e = .ok u) : Ordinary s u := by
  unfold State.firstPart at h
  split at h
  · cases h
    exact ordinary_refl s
  · exact ordinary_incPointer h

theorem ordinary_loadByte {u : State} {e : Offset} (h : t.loadByte ac e = .ok u) : Ordinary t u := by
  obtain ⟨x, _, h⟩ := finish_bind (t := u) (congrArg finish h)
  obtain ⟨w, _, h⟩ := finish_bind h
  rw [← finish_pure h]
  exact ordinary_setAc (ordinary_refl t) _ _

theorem ordinary_depositAc {u : State} {e : Offset} (h : t.depositAc ac e = .ok u) : Ordinary t u := by
  obtain ⟨x, _, h⟩ := finish_bind (t := u) (congrArg finish h)
  obtain ⟨w, _, h⟩ := finish_bind h
  exact ordinary_writeMem (ordinary_refl t) (finish_eq_next h)

-- What is not ordinary: I/O, monitor calls, flag restores, dismissals

/-- Any change of FLAGS. -/
theorem keeps_withFlags (h : Keeps s t) (f : BitVec 13) : Keeps s { t with flags := f } :=
  keeps_trans h ⟨rfl, rfl, rfl, rfl, rfl, fun _ _ _ => rfl, id, id, fun _ => rfl, rfl⟩

/-- Any change of PC inside its section. -/
theorem keeps_jumpTo (h : Keeps s t) (o : Offset) : Keeps s (t.jumpTo o) :=
  keeps_trans h (ordinary_jumpTo (ordinary_refl t) o).toKeeps

/-- Any change of the controller, RUNNING and the history. -/
theorem keeps_withControl (h : Keeps s t) (p : InterruptController) (r : Bool) (l : List IoEvent) :
    Keeps s { t with pi := p, running := r, ioLog := l } :=
  keeps_trans h ⟨rfl, rfl, rfl, rfl, rfl, fun _ _ _ => rfl, id, id, fun _ => rfl, rfl⟩

theorem keeps_piDismiss (h : Keeps s t) : Keeps s t.piDismiss := by
  unfold State.piDismiss
  split
  · exact h
  · exact keeps_withControl h _ t.running t.ioLog

theorem keeps_deviceCall (h : Keeps s t) (dev : DevId) (ev : IoEvent) : Keeps s (t.deviceCall dev ev) := by
  refine keeps_trans h ⟨rfl, rfl, rfl, rfl, rfl, fun _ _ _ => rfl, id, id, fun _ => rfl, ?_⟩
  unfold State.deviceCall
  simp only [List.map_map]
  apply List.map_congr_left
  intro d _
  simp only [Function.comp]
  split <;> rfl

theorem keeps_unknownDevice {dev : DevId} (h : s.unknownDevice dev = .ok t) : Keeps s t := by
  unfold State.unknownDevice at h
  split at h
  · cases h
    exact keeps_trans (keeps_withControl (keeps_refl s) s.pi s.running _) (ordinary_normal (ordinary_refl _)).toKeeps
  · cases h

theorem keeps_unimplemented {dev : DevId} {op : IoOp} (h : s.unimplemented dev op = .ok t) : Keeps s t := by
  unfold State.unimplemented at h
  split at h
  · cases h
    exact keeps_trans (keeps_withControl (keeps_refl s) s.pi s.running _) (ordinary_normal (ordinary_refl _)).toKeeps
  · cases h

/-- A monitor call that answers next found its three words, and keeps all but storage, FLAGS and PC. -/
theorem raiseMuuo_next {head : BitVec 13} {e : Offset} (h : s.raiseMuuo head e = .ok t) :
    MuuoPossible s ∧ Keeps s t ∧ t.running = s.running ∧ t.pi = s.pi ∧ t.devices = s.devices ∧ t.ioLog = s.ioLog
      ∧ t.redispatch = s.redispatch := by
  obtain ⟨u, hu, h⟩ := finish_bind (t := t) (congrArg finish h)
  obtain ⟨v, hv, h⟩ := finish_bind h
  obtain ⟨w, hw, h⟩ := finish_bind h
  have hou := ordinary_writeMem (ordinary_refl s) hu
  have hov := ordinary_writeMem hou hv
  obtain ⟨h1, hu⟩ := writeMem_eq_ok hu
  obtain ⟨h2, hv⟩ := writeMem_eq_ok hv
  obtain ⟨h3, _⟩ := readMem_eq_ok hw
  have hf : v.flags = s.flags := by rw [hv, State.poke_flags, hu, State.poke_flags]
  have hr : v.redispatch = s.redispatch := by rw [hv, State.poke_redispatch, hu, State.poke_redispatch]
  have hp : ∀ b, u.present b = s.present b := fun b => by rw [hu, State.poke_present]
  have hq : ∀ b, v.present b = s.present b := fun b => by rw [hv, State.poke_present, hp]
  have hm : muuoVector v = muuoVector s := by
    unfold muuoVector inCycle State.flag
    rw [hov.params, hf, hov.exceptionCycle]
  rw [muuoIndex_eq, hm, hq] at h3
  rw [hp, hou.params] at h2
  rw [← finish_pure h]
  exact ⟨⟨h1, h2, h3⟩, keeps_jumpTo (keeps_withFlags hov.toKeeps _) _, hov.running, hov.pi, hov.devices, hov.ioLog, hr⟩

theorem monitorCall_next {op : BitVec 9} (h : monitorCall op ac m s = .next t) :
    ∃ e, s.effective m = .ok e ∧ s.raiseMuuo (op ++ ac) e = .ok t := by
  obtain ⟨e, he, h⟩ := finish_bind h
  exact ⟨e, he, finish_eq_next h⟩

theorem unassignedCall_next {op : BitVec 9} (h : unassignedCall op ac m s = .next t) :
    ∃ e, s.effective m = .ok e ∧ s.raiseMuuo (op ++ ac) e = .ok t := by
  obtain ⟨e, he, h⟩ := finish_bind h
  refine ⟨e, he, ?_⟩
  have h := finish_eq_next h
  unfold State.raiseUnassigned at h
  split at h
  · exact h
  · cases h

/-- A privileged function that answers next either was legal or took the monitor call. -/
theorem privileged_next {head : BitVec 13} {e : Offset} {u : State} (h : s.privileged head e u = .ok t) :
    (s.ioLegal = true ∧ t = u) ∨ (s.ioLegal = false ∧ s.raiseMuuo head e = .ok t) := by
  unfold State.privileged at h
  cases hl : s.ioLegal
  · simp only [hl, Bool.false_eq_true, if_false] at h
    exact .inr ⟨rfl, h⟩
  · simp only [hl, if_true] at h
    cases h
    exact .inl ⟨rfl, rfl⟩

/-- An I/O instruction that answers next went one of the five ways of R591. -/
theorem ioInstruction_next {op : IoOp} {needs : List IoOp} {f g : State → Offset → Except Fault State} {dev : DevId}
    (h : ioInstruction op needs f g dev m s = .next t) :
    ∃ e, s.effective m = .ok e ∧
      ((s.ioLegal = false ∧ s.raiseMuuo (ioHead dev op) e = .ok t) ∨
        (s.ioLegal = true ∧ (f s e = .ok t ∨ s.unknownDevice dev = .ok t ∨ s.unimplemented dev op = .ok t
          ∨ g s e = .ok t))) := by
  obtain ⟨e, he, h⟩ := finish_bind h
  refine ⟨e, he, ?_⟩
  unfold State.ioRoute at h
  cases hl : s.ioLegal
  · simp only [hl, Bool.not_false, if_true] at h
    exact .inl ⟨rfl, finish_eq_next h⟩
  · right
    refine ⟨rfl, ?_⟩
    simp only [hl, Bool.not_true, Bool.false_eq_true, if_false] at h
    split at h
    · rename_i hr
      split at hr
      · cases hr
      · split at hr
        · cases hr
        · split at hr <;> cases hr
    · exact .inl (finish_eq_next h)
    · exact .inr (.inl (finish_eq_next h))
    · exact .inr (.inr (.inl (finish_eq_next h)))
    · exact .inr (.inr (.inr (finish_eq_next h)))

end Sys2Proof.Machine
end

