-- ==== Sys2Proof/Laws/Kinds.lean ====
section
/-!
SUPPORT. What each instruction's next state is to its start, in one of six kinds: the case analysis over all
instructions behind every rule about the whole machine.
-/

namespace Sys2Proof.Machine

/-- The six kinds of a completed instruction. -/
inductive Kind (i : Instr) (s t : State) : Prop
  /-- nothing but storage, the unprivileged flags and PC changed -/
  | ordinary : Ordinary s t → Kind i s t
  /-- it took a monitor call with its own head (R581) -/
  | monitor (e : Offset) : s.raiseMuuo i.head e = .ok t → Kind i s t
  /-- JRSTF, or JEN where it is legal, restored FLAGS (R514, R517) -/
  | restore (m : AddrPart) (last : Word) : (i = .jrstf m ∨ (i = .jen m ∧ s.ioLegal = true)) → Keeps s t →
      t.flags = (s.restoreFlags last).flags → t.running = s.running → t.devices = s.devices → t.ioLog = s.ioLog →
      (s.ioLegal = false → t.pi = s.pi) → Kind i s t
  /-- PUSHJ, JSR and JSP saved FLAGS and cleared some (R529) -/
  | link (ac : AcNum) (m : AddrPart) : (i = .pushj ac m ∨ i = .jsr ac m ∨ i = .jsp ac m) → Keeps s t →
      t.flags &&& modeMask = linkageFlags s &&& modeMask → t.running = s.running → t.pi = s.pi →
      t.devices = s.devices → t.ioLog = s.ioLog → Kind i s t
  /-- HALT where it is legal (R515) -/
  | halt (m : AddrPart) : i = .halt m → s.ioLegal = true → Keeps s t → t.flags = s.flags → t.running = false →
      Kind i s t
  /-- JRST 10 and I/O where they are legal (R516, R591) -/
  | io : s.ioLegal = true → Keeps s t → t.flags = s.flags → t.running = s.running → Kind i s t

-- Flags of the functions that the forms are used with

theorem copied_modes (w : Word) : (copied w).2 &&& modeMask = 0 := BitVec.zero_and

theorem swapped_modes (w : Word) : (swapped w).2 &&& modeMask = 0 := BitVec.zero_and

theorem noFlags_modes (f : Word → Word → Word) (a b : Word) : (noFlags f a b).2 &&& modeMask = 0 := BitVec.zero_and

theorem imulWord_modes (a b : Word) : (imulWord a b).2 &&& modeMask = 0 := overflowFlags_modes _

theorem mulWords_modes (a b : Word) : (mulWords a b).2 &&& modeMask = 0 := overflowFlags_modes _

theorem plusOne_modes (a : Word) : (plusOne a).2 &&& modeMask = 0 := add36_modes a 1

theorem minusOne_modes (a : Word) : (minusOne a).2 &&& modeMask = 0 := sub36_modes a 1

theorem ashWord_modes (n : Int) (a : Word) : (ashWord n a).2 &&& modeMask = 0 := by
  unfold ashWord
  split
  · exact overflowFlags_modes _
  · exact BitVec.zero_and

theorem rotWord_modes (n : Int) (a : Word) : (rotWord n a).2 &&& modeMask = 0 := BitVec.zero_and

theorem lshWord_modes (n : Int) (a : Word) : (lshWord n a).2 &&& modeMask = 0 := by
  unfold lshWord
  split <;> exact BitVec.zero_and

theorem ashcWords_modes (n : Int) (a b : Word) : (ashcWords n a b).2 &&& modeMask = 0 := by
  unfold ashcWords
  split
  · exact overflowFlags_modes _
  · exact BitVec.zero_and

theorem rotcWords_modes (n : Int) (a b : Word) : (rotcWords n a b).2 &&& modeMask = 0 := BitVec.zero_and

theorem lshcWords_modes (n : Int) (a b : Word) : (lshcWords n a b).2 &&& modeMask = 0 := by
  unfold lshcWords
  split <;> exact BitVec.zero_and

-- The meanings written out in full

variable {s t : State} {ac : AcNum} {m : AddrPart} {dev : DevId}

theorem jfclMask_modes (ac : AcNum) : jfclMask ac &&& modeMask = 0 := by
  revert ac
  decide

theorem ordinary_execJfcl (h : execJfcl ac m s = .next t) : Ordinary s t := by
  obtain ⟨e, _, h⟩ := finish_bind h
  rw [← finish_pure h]
  exact ordinary_jumpIf (ordinary_clearFlags (ordinary_refl s) (jfclMask_modes ac)) _ _

theorem ordinary_execXct (h : execXct ac m s = .next t) : Ordinary s t := by
  obtain ⟨x, _, h⟩ := finish_bind h
  rw [← finish_pure h]
  exact ordinary_redispatchWith (ordinary_refl s) _

theorem ordinary_execJsa (h : execJsa ac m s = .next t) : Ordinary s t := by
  obtain ⟨e, _, h⟩ := finish_bind h
  obtain ⟨u, hu, h⟩ := finish_bind h
  rw [← finish_pure h]
  exact ordinary_jumpTo (ordinary_setAc (ordinary_writeMem (ordinary_refl s) hu) _ _) _

theorem ordinary_execJra (h : execJra ac m s = .next t) : Ordinary s t := by
  obtain ⟨e, _, h⟩ := finish_bind h
  obtain ⟨w, _, h⟩ := finish_bind h
  rw [← finish_pure h]
  exact ordinary_jumpTo (ordinary_setAc (ordinary_refl s) _ _) _

theorem ordinary_execPopj (h : execPopj ac m s = .next t) : Ordinary s t := by
  obtain ⟨e, _, h⟩ := finish_bind h
  obtain ⟨w, _, h⟩ := finish_bind h
  rw [← finish_pure h]
  exact ordinary_jumpTo (ordinary_setTrap2If (ordinary_setAc (ordinary_refl s) _ _) _) _

theorem ordinary_execPush (h : execPush ac m s = .next t) : Ordinary s t := by
  obtain ⟨x, _, h⟩ := finish_bind h
  obtain ⟨u, hu, h⟩ := finish_bind h
  rw [← finish_pure h]
  exact ordinary_normal (ordinary_setTrap2If (ordinary_writeMem (ordinary_setAc (ordinary_refl s) _ _) hu) _)

theorem ordinary_execPop (h : execPop ac m s = .next t) : Ordinary s t := by
  obtain ⟨e, _, h⟩ := finish_bind h
  obtain ⟨v, _, h⟩ := finish_bind h
  obtain ⟨u, hu, h⟩ := finish_bind h
  rw [← finish_pure h]
  exact ordinary_normal (ordinary_setTrap2If (ordinary_writeMem (ordinary_setAc (ordinary_refl s) _ _) hu) _)

theorem ordinary_execAdjsp (h : execAdjsp ac m s = .next t) : Ordinary s t := by
  obtain ⟨e, _, h⟩ := finish_bind h
  rw [← finish_pure h]
  exact ordinary_normal (ordinary_setTrap2If (ordinary_setAc (ordinary_refl s) _ _) _)

theorem ordinary_execJffo (h : execJffo ac m s = .next t) : Ordinary s t := by
  obtain ⟨e, _, h⟩ := finish_bind h
  rw [← finish_pure h]
  exact ordinary_jumpIf (ordinary_setAc (ordinary_refl s) _ _) _ _

theorem ordinary_execDadd (h : execDadd ac m s = .next t) : Ordinary s t := by
  obtain ⟨x, _, h⟩ := finish_bind h
  rw [← finish_pure h]
  exact ordinary_normal (ordinary_setAcPair (ordinary_setFlags (ordinary_refl s) (add71_modes _ _)) _ _)

theorem ordinary_execDsub (h : execDsub ac m s = .next t) : Ordinary s t := by
  obtain ⟨x, _, h⟩ := finish_bind h
  rw [← finish_pure h]
  exact ordinary_normal (ordinary_setAcPair (ordinary_setFlags (ordinary_refl s) (sub71_modes _ _)) _ _)

theorem ordinary_execDmul (h : execDmul ac m s = .next t) : Ordinary s t := by
  obtain ⟨x, _, h⟩ := finish_bind h
  rw [← finish_pure h]
  exact ordinary_normal (ordinary_setAcQuad (ordinary_setFlags (ordinary_refl s) (overflowFlags_modes _)) _ _)

theorem ordinary_execDdiv (h : execDdiv ac m s = .next t) : Ordinary s t := by
  obtain ⟨x, _, h⟩ := finish_bind h
  cases hq : divide (s.dividend4 ac) (unpack72 x.1 x.2) 70 with
  | none =>
    rw [hq] at h
    rw [← finish_pure h]
    exact ordinary_noDivideNext s
  | some q =>
    rw [hq] at h
    rw [← finish_pure h]
    exact ordinary_normal (ordinary_setAcPair (ordinary_setAcPair (ordinary_refl s) _ _) _ _)

theorem ordinary_execExch (h : execExch ac m s = .next t) : Ordinary s t := by
  obtain ⟨x, _, h⟩ := finish_bind h
  obtain ⟨u, hu, h⟩ := finish_bind h
  rw [← finish_pure h]
  exact ordinary_normal (ordinary_setAc (ordinary_writeMem (ordinary_refl s) hu) _ _)

theorem ordinary_execBlt (h : execBlt ac m s = .next t) : Ordinary s t := by
  obtain ⟨e, _, h⟩ := finish_bind h
  obtain ⟨u, hu, h⟩ := finish_bind h
  rw [← finish_pure h]
  exact ordinary_normal (ordinary_setAc (ordinary_copyBlock (ordinary_refl s) hu) _ _)

theorem ordinary_execDmove (h : execDmove ac m s = .next t) : Ordinary s t := by
  obtain ⟨x, _, h⟩ := finish_bind h
  rw [← finish_pure h]
  exact ordinary_normal (ordinary_setAcPair (ordinary_refl s) _ _)

theorem ordinary_execDmovn (h : execDmovn ac m s = .next t) : Ordinary s t := by
  obtain ⟨x, _, h⟩ := finish_bind h
  rw [← finish_pure h]
  exact ordinary_normal (ordinary_setAcPair (ordinary_setFlags (ordinary_refl s) (sub71_modes _ _)) _ _)

theorem ordinary_execDmovem (h : execDmovem ac m s = .next t) : Ordinary s t := by
  obtain ⟨e, _, h⟩ := finish_bind h
  obtain ⟨u, hu, h⟩ := finish_bind h
  rw [← finish_pure h]
  exact ordinary_normal (ordinary_writeMem2 (ordinary_refl s) hu)

theorem ordinary_execDmovnm (h : execDmovnm ac m s = .next t) : Ordinary s t := by
  obtain ⟨e, _, h⟩ := finish_bind h
  obtain ⟨u, hu, h⟩ := finish_bind h
  rw [← finish_pure h]
  exact ordinary_normal (ordinary_writeMem2 (ordinary_setFlags (ordinary_refl s) (sub71_modes _ _)) hu)

theorem ordinary_execIbp (h : execIbp m s = .next t) : Ordinary s t := by
  obtain ⟨e, _, h⟩ := finish_bind h
  obtain ⟨u, hu, h⟩ := finish_bind h
  rw [← finish_pure h]
  exact ordinary_normal (ordinary_incPointer hu)

theorem ordinary_setPointer (s : State) (ac : AcNum) (k : PointerKind) (w w2 : Word) :
    Ordinary s (s.setPointer ac k w w2) := by
  cases k
  · exact ordinary_setAc (ordinary_refl s) _ _
  · exact ordinary_setAc (ordinary_refl s) _ _
  · exact ordinary_setAcPair (ordinary_refl s) _ _

theorem ordinary_execAdjbp (h : execAdjbp ac m s = .next t) : Ordinary s t := by
  obtain ⟨e, _, h⟩ := finish_bind h
  obtain ⟨w, _, h⟩ := finish_bind h
  obtain ⟨f, _, h⟩ := finish_bind h
  obtain ⟨w2, _, h⟩ := finish_bind h
  split at h
  · rw [← finish_pure h]
    exact ordinary_normal (ordinary_setPointer s _ _ _ _)
  · split at h
    · rw [← finish_pure h]
      exact ordinary_noDivideNext s
    · rw [← finish_pure h]
      exact ordinary_normal (ordinary_setPointer s _ _ _ _)

theorem ordinary_execIldb (h : execIldb ac m s = .next t) : Ordinary s t := by
  obtain ⟨e, _, h⟩ := finish_bind h
  obtain ⟨u, hu, h⟩ := finish_bind h
  obtain ⟨v, hv, h⟩ := finish_bind h
  rw [← finish_pure h]
  exact ordinary_normal (ordinary_clearFlags (ordinary_trans (ordinary_firstPart hu) (ordinary_loadByte hv)) (by decide))

theorem ordinary_execLdb (h : execLdb ac m s = .next t) : Ordinary s t := by
  obtain ⟨e, _, h⟩ := finish_bind h
  obtain ⟨v, hv, h⟩ := finish_bind h
  rw [← finish_pure h]
  exact ordinary_normal (ordinary_loadByte hv)

theorem ordinary_execIdpb (h : execIdpb ac m s = .next t) : Ordinary s t := by
  obtain ⟨e, _, h⟩ := finish_bind h
  obtain ⟨u, hu, h⟩ := finish_bind h
  obtain ⟨v, hv, h⟩ := finish_bind h
  rw [← finish_pure h]
  exact ordinary_normal (ordinary_clearFlags (ordinary_trans (ordinary_firstPart hu) (ordinary_depositAc hv)) (by decide))

theorem ordinary_execDpb (h : execDpb ac m s = .next t) : Ordinary s t := by
  obtain ⟨e, _, h⟩ := finish_bind h
  obtain ⟨v, hv, h⟩ := finish_bind h
  rw [← finish_pure h]
  exact ordinary_normal (ordinary_depositAc hv)

-- Flag saves, restores, dismissals, HALT

theorem clearOnSave_keeps (h : Ordinary s t) : Keeps s t.clearOnSave ∧ t.clearOnSave.running = s.running ∧
    t.clearOnSave.pi = s.pi ∧ t.clearOnSave.devices = s.devices ∧ t.clearOnSave.ioLog = s.ioLog := by
  have key : ∃ f, t.clearOnSave = { t with flags := f } := by
    unfold State.clearOnSave
    dsimp only
    split <;> exact ⟨_, rfl⟩
  obtain ⟨f, hf⟩ := key
  rw [hf]
  exact ⟨keeps_withFlags h.toKeeps f, h.running, h.pi, h.devices, h.ioLog⟩

theorem clearOnSave_flags (h : t.flags = s.flags) (hx : t.exceptionCycle = s.exceptionCycle) :
    t.clearOnSave.flags = linkageFlags s := by
  unfold State.clearOnSave linkageFlags inCycle
  dsimp only
  rw [State.clearFlags_exceptionCycle, hx]
  rcases s.exceptionCycle with _ | ⟨_ | _, _⟩
  · exact congrArg (fun f => f &&& _) h
  · exact congrArg (fun f => f &&& _) h
  · exact congrArg (fun f => f &&& _ &&& _) h

/-- What follows the save: ordinary updates of the state it left. -/
theorem kind_link {i : Instr} {u v : State} (hi : i = .pushj ac m ∨ i = .jsr ac m ∨ i = .jsp ac m)
    (hu : Ordinary s u) (hf : u.flags = s.flags) (ho : Ordinary u.clearOnSave v) : Kind i s v := by
  obtain ⟨k, h1, h2, h3, h4⟩ := clearOnSave_keeps hu
  refine .link ac m hi (keeps_trans k ho.toKeeps) ?_ (ho.running.trans h1) (ho.pi.trans h2) (ho.devices.trans h3)
    (ho.ioLog.trans h4)
  rw [ho.modes, clearOnSave_flags hf hu.exceptionCycle]

theorem kind_execJsr (h : execJsr ac m s = .next t) : Kind (.jsr ac m) s t := by
  obtain ⟨e, _, h⟩ := finish_bind h
  obtain ⟨u, hu, h⟩ := finish_bind h
  rw [← finish_pure h]
  exact kind_link (.inr (.inl rfl)) (ordinary_refl s) rfl (ordinary_jumpTo (ordinary_writeMem (ordinary_refl _) hu) _)

theorem kind_execJsp (h : execJsp ac m s = .next t) : Kind (.jsp ac m) s t := by
  obtain ⟨e, _, h⟩ := finish_bind h
  rw [← finish_pure h]
  exact kind_link (.inr (.inr rfl)) (ordinary_refl s) rfl (ordinary_jumpTo (ordinary_setAc (ordinary_refl _) _ _) _)

theorem kind_execPushj (h : execPushj ac m s = .next t) : Kind (.pushj ac m) s t := by
  obtain ⟨e, _, h⟩ := finish_bind h
  obtain ⟨u, hu, h⟩ := finish_bind h
  rw [← finish_pure h]
  exact kind_link (.inl rfl) (ordinary_setAc (ordinary_refl s) _ _) rfl
    (ordinary_jumpTo (ordinary_setTrap2If (ordinary_writeMem (ordinary_refl _) hu) _) _)

theorem kind_execJrstf (h : execJrstf m s = .next t) : Kind (.jrstf m) s t := by
  obtain ⟨r, _, h⟩ := finish_bind h
  rw [← finish_pure h]
  exact .restore m r.2 (.inl rfl) (keeps_jumpTo (keeps_withFlags (keeps_refl s) _) _) rfl rfl rfl rfl (fun _ => rfl)

theorem piDismiss_same (s : State) : s.piDismiss.flags = s.flags ∧ s.piDismiss.running = s.running ∧
    s.piDismiss.devices = s.devices ∧ s.piDismiss.ioLog = s.ioLog := by
  unfold State.piDismiss
  split <;> exact ⟨rfl, rfl, rfl, rfl⟩

theorem kind_execJen (h : execJen m s = .next t) : Kind (.jen m) s t := by
  obtain ⟨r, _, h⟩ := finish_bind h
  rcases privileged_next (finish_eq_next h) with ⟨hl, rfl⟩ | ⟨_, h⟩
  · obtain ⟨h1, h2, h3, h4⟩ := piDismiss_same (s.restoreFlags r.2)
    exact .restore m r.2 (.inr ⟨rfl, hl⟩)
      (keeps_jumpTo (keeps_piDismiss (keeps_withFlags (keeps_refl s) (s.restoreFlags r.2).flags)) _) h1 h2 h3 h4
      (fun hn => by rw [hl] at hn; cases hn)
  · exact .monitor r.1 (by rw [show Instr.head (.jen m) = callHead 0o254 0o12 from headField_append _ _]; exact h)

theorem kind_execJrst10 (h : execJrst10 m s = .next t) : Kind (.jrst10 m) s t := by
  obtain ⟨e, _, h⟩ := finish_bind h
  rcases privileged_next (finish_eq_next h) with ⟨hl, rfl⟩ | ⟨_, h⟩
  · obtain ⟨h1, h2, _, _⟩ := piDismiss_same s
    exact .io hl (keeps_jumpTo (keeps_piDismiss (keeps_refl s)) _) h1 h2
  · exact .monitor e (by rw [show Instr.head (.jrst10 m) = callHead 0o254 0o10 from headField_append _ _]; exact h)

theorem kind_execHalt (h : execHalt m s = .next t) : Kind (.halt m) s t := by
  obtain ⟨e, _, h⟩ := finish_bind h
  rcases privileged_next (finish_eq_next h) with ⟨hl, rfl⟩ | ⟨_, h⟩
  · exact .halt m rfl hl (keeps_withControl (keeps_jumpTo (keeps_refl s) e) s.pi false s.ioLog) rfl rfl
  · exact .monitor e (by rw [show Instr.head (.halt m) = callHead 0o254 0o04 from headField_append _ _]; exact h)

-- Monitor calls

theorem kind_monitorCall {i : Instr} {op : BitVec 9} (hi : i.head = op ++ ac) (h : monitorCall op ac m s = .next t) :
    Kind i s t := by
  obtain ⟨e, _, h⟩ := monitorCall_next h
  exact .monitor e (hi ▸ h)

theorem kind_unassignedCall {i : Instr} {op : BitVec 9} (hi : i.head = op ++ ac)
    (h : unassignedCall op ac m s = .next t) : Kind i s t := by
  obtain ⟨e, _, h⟩ := unassignedCall_next h
  exact .monitor e (hi ▸ h)

-- I/O

theorem unknownDevice_same (h : s.unknownDevice dev = .ok t) : t.flags = s.flags ∧ t.running = s.running := by
  unfold State.unknownDevice at h
  split at h <;> cases h
  exact ⟨rfl, rfl⟩

theorem unimplemented_same {op : IoOp} (h : s.unimplemented dev op = .ok t) :
    t.flags = s.flags ∧ t.running = s.running := by
  unfold State.unimplemented at h
  split at h <;> cases h
  exact ⟨rfl, rfl⟩

/-- An I/O instruction, from what its two routines keep. -/
theorem kind_ioInstruction {i : Instr} {op : IoOp} {needs : List IoOp} {f g : State → Offset → Except Fault State}
    (hi : i.head = ioHead dev op)
    (hf : ∀ e t, f s e = .ok t → Keeps s t ∧ t.flags = s.flags ∧ t.running = s.running)
    (hg : ∀ e t, g s e = .ok t → Keeps s t ∧ t.flags = s.flags ∧ t.running = s.running)
    (h : ioInstruction op needs f g dev m s = .next t) : Kind i s t := by
  obtain ⟨e, _, ⟨_, h⟩ | ⟨hl, h | h | h | h⟩⟩ := ioInstruction_next h
  · exact .monitor e (hi ▸ h)
  · obtain ⟨k, h1, h2⟩ := hf e t h
    exact .io hl k h1 h2
  · exact .io hl (keeps_unknownDevice h) (unknownDevice_same h).1 (unknownDevice_same h).2
  · exact .io hl (keeps_unimplemented h) (unimplemented_same h).1 (unimplemented_same h).2
  · obtain ⟨k, h1, h2⟩ := hg e t h
    exact .io hl k h1 h2

theorem controllerRefuses_next {op : IoOp} (e : Offset) (t : State) (h : controllerRefuses op s e = .ok t) :
    Keeps s t ∧ t.flags = s.flags ∧ t.running = s.running :=
  ⟨keeps_unimplemented h, unimplemented_same h⟩

/-- An ordinary update after a handler call. -/
theorem afterCall_next {u : State} {ev : IoEvent} (h : Ordinary (s.deviceCall dev ev) u) (hf : u.flags = s.flags) :
    Keeps s u ∧ u.flags = s.flags ∧ u.running = s.running :=
  ⟨keeps_trans (keeps_deviceCall (keeps_refl s) dev ev) h.toKeeps, hf, h.running⟩

theorem writeMem_flags {u : State} {a : VAddr} {v : Word} (h : s.writeMem a v = .ok u) : u.flags = s.flags := by
  obtain ⟨_, rfl⟩ := writeMem_eq_ok h
  exact State.poke_flags _ _ _

theorem normal_flags {u : State} {a : VAddr} {v : Word} (h : s.writeMem a v = .ok u) : u.normal.flags = s.flags := by
  show u.flags = _
  exact writeMem_flags h

theorem skipIf_flags (s : State) (c : Bool) : (s.skipIf c).flags = s.flags := by
  cases c <;> rfl

theorem blockIn_next (e : Offset) (t : State) (h : blockIn dev s e = .ok t) :
    Keeps s t ∧ t.flags = s.flags ∧ t.running = s.running := by
  obtain ⟨p, _, h⟩ := finish_bind (t := t) (congrArg finish h)
  obtain ⟨u, hu, h⟩ := finish_bind h
  obtain ⟨v, hv, h⟩ := finish_bind h
  rw [← finish_pure h]
  have ho := ordinary_writeMem (ordinary_refl s) hu
  have hw := ordinary_skipIf (ordinary_writeMem (ordinary_refl _) hv) (s.blockSkips p)
  obtain ⟨k, h1, h2⟩ := afterCall_next hw (by rw [skipIf_flags, writeMem_flags hv]; rfl)
  exact ⟨keeps_trans ho.toKeeps k, h1.trans (writeMem_flags hu), h2.trans ho.running⟩

theorem dataIn_next (e : Offset) (t : State) (h : dataIn dev s e = .ok t) :
    Keeps s t ∧ t.flags = s.flags ∧ t.running = s.running := by
  obtain ⟨u, hu, h⟩ := finish_bind (t := t) (congrArg finish h)
  rw [← finish_pure h]
  have hf := normal_flags hu
  exact afterCall_next (ordinary_normal (ordinary_writeMem (ordinary_refl _) hu)) hf

theorem blockOut_next (e : Offset) (t : State) (h : blockOut dev s e = .ok t) :
    Keeps s t ∧ t.flags = s.flags ∧ t.running = s.running := by
  obtain ⟨p, _, h⟩ := finish_bind (t := t) (congrArg finish h)
  obtain ⟨u, hu, h⟩ := finish_bind h
  obtain ⟨w, _, h⟩ := finish_bind h
  rw [← finish_pure h]
  have ho := ordinary_writeMem (ordinary_refl s) hu
  obtain ⟨k, h1, h2⟩ := afterCall_next (s := u) (dev := dev) (ev := .dataOut dev w)
    (ordinary_skipIf (ordinary_refl _) (s.blockSkips p)) (skipIf_flags _ _)
  exact ⟨keeps_trans ho.toKeeps k, h1.trans (writeMem_flags hu), h2.trans ho.running⟩

theorem dataOut_next (e : Offset) (t : State) (h : dataOut dev s e = .ok t) :
    Keeps s t ∧ t.flags = s.flags ∧ t.running = s.running := by
  obtain ⟨w, _, h⟩ := finish_bind (t := t) (congrArg finish h)
  rw [← finish_pure h]
  exact afterCall_next (ordinary_normal (ordinary_refl _)) rfl

theorem conditionsOut_next (e : Offset) (t : State) (h : conditionsOut dev s e = .ok t) :
    Keeps s t ∧ t.flags = s.flags ∧ t.running = s.running := by
  cases h
  exact afterCall_next (ordinary_normal (ordinary_refl (s.deviceCall dev (.condOut dev e)))) rfl

theorem controllerCono_next (e : Offset) (t : State) (h : controllerCono s e = .ok t) :
    Keeps s t ∧ t.flags = s.flags ∧ t.running = s.running := by
  cases h
  exact ⟨keeps_trans (keeps_withControl (keeps_refl s) (s.pi.command e) s.running s.ioLog)
    (ordinary_normal (ordinary_refl _)).toKeeps, rfl, rfl⟩

theorem conditionsIn_next (e : Offset) (t : State) (h : conditionsIn dev s e = .ok t) :
    Keeps s t ∧ t.flags = s.flags ∧ t.running = s.running := by
  obtain ⟨u, hu, h⟩ := finish_bind (t := t) (congrArg finish h)
  rw [← finish_pure h]
  have hf := normal_flags hu
  exact afterCall_next (ordinary_normal (ordinary_writeMem (ordinary_refl _) hu)) hf

theorem controllerConi_next (e : Offset) (t : State) (h : controllerConi s e = .ok t) :
    Keeps s t ∧ t.flags = s.flags ∧ t.running = s.running := by
  obtain ⟨u, hu, h⟩ := finish_bind (t := t) (congrArg finish h)
  rw [← finish_pure h]
  have ho := ordinary_normal (ordinary_writeMem (ordinary_refl s) hu)
  exact ⟨ho.toKeeps, normal_flags hu, ho.running⟩

theorem skipIf_next (c : Bool) : Keeps s (s.skipIf c) ∧ (s.skipIf c).flags = s.flags ∧
    (s.skipIf c).running = s.running :=
  ⟨(ordinary_skipIf (ordinary_refl s) c).toKeeps, skipIf_flags s c, (ordinary_skipIf (ordinary_refl s) c).running⟩

theorem controllerConsz_next (e : Offset) (t : State) (h : controllerConsz s e = .ok t) :
    Keeps s t ∧ t.flags = s.flags ∧ t.running = s.running := by
  cases h
  exact skipIf_next _

theorem controllerConso_next (e : Offset) (t : State) (h : controllerConso s e = .ok t) :
    Keeps s t ∧ t.flags = s.flags ∧ t.running = s.running := by
  cases h
  exact skipIf_next _

theorem skipOnZero_next (e : Offset) (t : State) (h : skipOnZero dev s e = .ok t) :
    Keeps s t ∧ t.flags = s.flags ∧ t.running = s.running := by
  cases h
  exact afterCall_next (ordinary_skipIf (ordinary_refl (s.deviceCall dev (.condIn dev))) _) (skipIf_flags _ _)

theorem skipOnNonzero_next (e : Offset) (t : State) (h : skipOnNonzero dev s e = .ok t) :
    Keeps s t ∧ t.flags = s.flags ∧ t.running = s.running := by
  cases h
  exact afterCall_next (ordinary_skipIf (ordinary_refl (s.deviceCall dev (.condIn dev))) _) (skipIf_flags _ _)

-- Every instruction

/-- A completed instruction is of one of the six kinds. -/
theorem exec_kind (i : Instr) (s t : State) (h : exec i s = .next t) : Kind i s t := by
  cases i with
  | move ac m => exact .ordinary (ordinary_unaryBasic copied_modes h)
  | movei ac m => exact .ordinary (ordinary_unaryImmediate copied_modes h)
  | movem ac m => exact .ordinary (ordinary_unaryMemory copied_modes h)
  | moves ac m => exact .ordinary (ordinary_unarySelf copied_modes h)
  | movs ac m => exact .ordinary (ordinary_unaryBasic swapped_modes h)
  | movsi ac m => exact .ordinary (ordinary_unaryImmediate swapped_modes h)
  | movsm ac m => exact .ordinary (ordinary_unaryMemory swapped_modes h)
  | movss ac m => exact .ordinary (ordinary_unarySelf swapped_modes h)
  | movn ac m => exact .ordinary (ordinary_unaryBasic neg36_modes h)
  | movni ac m => exact .ordinary (ordinary_unaryImmediate neg36_modes h)
  | movnm ac m => exact .ordinary (ordinary_unaryMemory neg36_modes h)
  | movns ac m => exact .ordinary (ordinary_unarySelf neg36_modes h)
  | movm ac m => exact .ordinary (ordinary_unaryBasic magnitude36_modes h)
  | movmi ac m => exact .ordinary (ordinary_unaryImmediate magnitude36_modes h)
  | movmm ac m => exact .ordinary (ordinary_unaryMemory magnitude36_modes h)
  | movms ac m => exact .ordinary (ordinary_unarySelf magnitude36_modes h)
  | exch ac m => exact .ordinary (ordinary_execExch h)
  | blt ac m => exact .ordinary (ordinary_execBlt h)
  | dmove ac m => exact .ordinary (ordinary_execDmove h)
  | dmovn ac m => exact .ordinary (ordinary_execDmovn h)
  | dmovem ac m => exact .ordinary (ordinary_execDmovem h)
  | dmovnm ac m => exact .ordinary (ordinary_execDmovnm h)
  | add ac m => exact .ordinary (ordinary_binaryBasic add36_modes h)
  | addi ac m => exact .ordinary (ordinary_binaryImmediate add36_modes h)
  | addm ac m => exact .ordinary (ordinary_binaryMemory add36_modes h)
  | addb ac m => exact .ordinary (ordinary_binaryBoth add36_modes h)
  | sub ac m => exact .ordinary (ordinary_binaryBasic sub36_modes h)
  | subi ac m => exact .ordinary (ordinary_binaryImmediate sub36_modes h)
  | subm ac m => exact .ordinary (ordinary_binaryMemory sub36_modes h)
  | subb ac m => exact .ordinary (ordinary_binaryBoth sub36_modes h)
  | imul ac m => exact .ordinary (ordinary_binaryBasic imulWord_modes h)
  | imuli ac m => exact .ordinary (ordinary_binaryImmediate imulWord_modes h)
  | imulm ac m => exact .ordinary (ordinary_binaryMemory imulWord_modes h)
  | imulb ac m => exact .ordinary (ordinary_binaryBoth imulWord_modes h)
  | mul ac m => exact .ordinary (ordinary_pairBasic mulWords_modes h)
  | muli ac m => exact .ordinary (ordinary_pairImmediate mulWords_modes h)
  | mulm ac m => exact .ordinary (ordinary_pairMemory mulWords_modes h)
  | mulb ac m => exact .ordinary (ordinary_pairBoth mulWords_modes h)
  | idiv ac m => exact .ordinary (ordinary_divideBasic h)
  | idivi ac m => exact .ordinary (ordinary_divideImmediate h)
  | idivm ac m => exact .ordinary (ordinary_divideMemory h)
  | idivb ac m => exact .ordinary (ordinary_divideBoth h)
  | div ac m => exact .ordinary (ordinary_divideBasic h)
  | divi ac m => exact .ordinary (ordinary_divideImmediate h)
  | divm ac m => exact .ordinary (ordinary_divideMemory h)
  | divb ac m => exact .ordinary (ordinary_divideBoth h)
  | dadd ac m => exact .ordinary (ordinary_execDadd h)
  | dsub ac m => exact .ordinary (ordinary_execDsub h)
  | dmul ac m => exact .ordinary (ordinary_execDmul h)
  | ddiv ac m => exact .ordinary (ordinary_execDdiv h)
  | setz ac m => exact .ordinary (ordinary_binaryBasic (noFlags_modes _) h)
  | setzi ac m => exact .ordinary (ordinary_binaryImmediate (noFlags_modes _) h)
  | setzm ac m => exact .ordinary (ordinary_binaryMemory (noFlags_modes _) h)
  | setzb ac m => exact .ordinary (ordinary_binaryBoth (noFlags_modes _) h)
  | and ac m => exact .ordinary (ordinary_binaryBasic (noFlags_modes _) h)
  | andi ac m => exact .ordinary (ordinary_binaryImmediate (noFlags_modes _) h)
  | andm ac m => exact .ordinary (ordinary_binaryMemory (noFlags_modes _) h)
  | andb ac m => exact .ordinary (ordinary_binaryBoth (noFlags_modes _) h)
  | andca ac m => exact .ordinary (ordinary_binaryBasic (noFlags_modes _) h)
  | andcai ac m => exact .ordinary (ordinary_binaryImmediate (noFlags_modes _) h)
  | andcam ac m => exact .ordinary (ordinary_binaryMemory (noFlags_modes _) h)
  | andcab ac m => exact .ordinary (ordinary_binaryBoth (noFlags_modes _) h)
  | setm ac m => exact .ordinary (ordinary_binaryBasic (noFlags_modes _) h)
  | setmi ac m => exact .ordinary (ordinary_binaryImmediate (noFlags_modes _) h)
  | setmm ac m => exact .ordinary (ordinary_binaryMemory (noFlags_modes _) h)
  | setmb ac m => exact .ordinary (ordinary_binaryBoth (noFlags_modes _) h)
  | andcm ac m => exact .ordinary (ordinary_binaryBasic (noFlags_modes _) h)
  | andcmi ac m => exact .ordinary (ordinary_binaryImmediate (noFlags_modes _) h)
  | andcmm ac m => exact .ordinary (ordinary_binaryMemory (noFlags_modes _) h)
  | andcmb ac m => exact .ordinary (ordinary_binaryBoth (noFlags_modes _) h)
  | seta ac m => exact .ordinary (ordinary_binaryBasic (noFlags_modes _) h)
  | setai ac m => exact .ordinary (ordinary_binaryImmediate (noFlags_modes _) h)
  | setam ac m => exact .ordinary (ordinary_binaryMemory (noFlags_modes _) h)
  | setab ac m => exact .ordinary (ordinary_binaryBoth (noFlags_modes _) h)
  | xor ac m => exact .ordinary (ordinary_binaryBasic (noFlags_modes _) h)
  | xori ac m => exact .ordinary (ordinary_binaryImmediate (noFlags_modes _) h)
  | xorm ac m => exact .ordinary (ordinary_binaryMemory (noFlags_modes _) h)
  | xorb ac m => exact .ordinary (ordinary_binaryBoth (noFlags_modes _) h)
  | ior ac m => exact .ordinary (ordinary_binaryBasic (noFlags_modes _) h)
  | iori ac m => exact .ordinary (ordinary_binaryImmediate (noFlags_modes _) h)
  | iorm ac m => exact .ordinary (ordinary_binaryMemory (noFlags_modes _) h)
  | iorb ac m => exact .ordinary (ordinary_binaryBoth (noFlags_modes _) h)
  | andcb ac m => exact .ordinary (ordinary_binaryBasic (noFlags_modes _) h)
  | andcbi ac m => exact .ordinary (ordinary_binaryImmediate (noFlags_modes _) h)
  | andcbm ac m => exact .ordinary (ordinary_binaryMemory (noFlags_modes _) h)
  | andcbb ac m => exact .ordinary (ordinary_binaryBoth (noFlags_modes _) h)
  | eqv ac m => exact .ordinary (ordinary_binaryBasic (noFlags_modes _) h)
  | eqvi ac m => exact .ordinary (ordinary_binaryImmediate (noFlags_modes _) h)
  | eqvm ac m => exact .ordinary (ordinary_binaryMemory (noFlags_modes _) h)
  | eqvb ac m => exact .ordinary (ordinary_binaryBoth (noFlags_modes _) h)
  | setca ac m => exact .ordinary (ordinary_binaryBasic (noFlags_modes _) h)
  | setcai ac m => exact .ordinary (ordinary_binaryImmediate (noFlags_modes _) h)
  | setcam ac m => exact .ordinary (ordinary_binaryMemory (noFlags_modes _) h)
  | setcab ac m => exact .ordinary (ordinary_binaryBoth (noFlags_modes _) h)
  | orca ac m => exact .ordinary (ordinary_binaryBasic (noFlags_modes _) h)
  | orcai ac m => exact .ordinary (ordinary_binaryImmediate (noFlags_modes _) h)
  | orcam ac m => exact .ordinary (ordinary_binaryMemory (noFlags_modes _) h)
  | orcab ac m => exact .ordinary (ordinary_binaryBoth (noFlags_modes _) h)
  | setcm ac m => exact .ordinary (ordinary_binaryBasic (noFlags_modes _) h)
  | setcmi ac m => exact .ordinary (ordinary_binaryImmediate (noFlags_modes _) h)
  | setcmm ac m => exact .ordinary (ordinary_binaryMemory (noFlags_modes _) h)
  | setcmb ac m => exact .ordinary (ordinary_binaryBoth (noFlags_modes _) h)
  | orcm ac m => exact .ordinary (ordinary_binaryBasic (noFlags_modes _) h)
  | orcmi ac m => exact .ordinary (ordinary_binaryImmediate (noFlags_modes _) h)
  | orcmm ac m => exact .ordinary (ordinary_binaryMemory (noFlags_modes _) h)
  | orcmb ac m => exact .ordinary (ordinary_binaryBoth (noFlags_modes _) h)
  | orcb ac m => exact .ordinary (ordinary_binaryBasic (noFlags_modes _) h)
  | orcbi ac m => exact .ordinary (ordinary_binaryImmediate (noFlags_modes _) h)
  | orcbm ac m => exact .ordinary (ordinary_binaryMemory (noFlags_modes _) h)
  | orcbb ac m => exact .ordinary (ordinary_binaryBoth (noFlags_modes _) h)
  | seto ac m => exact .ordinary (ordinary_binaryBasic (noFlags_modes _) h)
  | setoi ac m => exact .ordinary (ordinary_binaryImmediate (noFlags_modes _) h)
  | setom ac m => exact .ordinary (ordinary_binaryMemory (noFlags_modes _) h)
  | setob ac m => exact .ordinary (ordinary_binaryBoth (noFlags_modes _) h)
  | ash ac m => exact .ordinary (ordinary_shiftOne ashWord_modes h)
  | rot ac m => exact .ordinary (ordinary_shiftOne rotWord_modes h)
  | lsh ac m => exact .ordinary (ordinary_shiftOne lshWord_modes h)
  | ashc ac m => exact .ordinary (ordinary_shiftTwo ashcWords_modes h)
  | rotc ac m => exact .ordinary (ordinary_shiftTwo rotcWords_modes h)
  | lshc ac m => exact .ordinary (ordinary_shiftTwo lshcWords_modes h)
  | cai ac m => exact .ordinary (ordinary_compareImmediate h)
  | cail ac m => exact .ordinary (ordinary_compareImmediate h)
  | caie ac m => exact .ordinary (ordinary_compareImmediate h)
  | caile ac m => exact .ordinary (ordinary_compareImmediate h)
  | caia ac m => exact .ordinary (ordinary_compareImmediate h)
  | caige ac m => exact .ordinary (ordinary_compareImmediate h)
  | cain ac m => exact .ordinary (ordinary_compareImmediate h)
  | caig ac m => exact .ordinary (ordinary_compareImmediate h)
  | cam ac m => exact .ordinary (ordinary_compareMemory h)
  | caml ac m => exact .ordinary (ordinary_compareMemory h)
  | came ac m => exact .ordinary (ordinary_compareMemory h)
  | camle ac m => exact .ordinary (ordinary_compareMemory h)
  | cama ac m => exact .ordinary (ordinary_compareMemory h)
  | camge ac m => exact .ordinary (ordinary_compareMemory h)
  | camn ac m => exact .ordinary (ordinary_compareMemory h)
  | camg ac m => exact .ordinary (ordinary_compareMemory h)
  | jump ac m => exact .ordinary (ordinary_jumpOnAc h)
  | jumpl ac m => exact .ordinary (ordinary_jumpOnAc h)
  | jumpe ac m => exact .ordinary (ordinary_jumpOnAc h)
  | jumple ac m => exact .ordinary (ordinary_jumpOnAc h)
  | jumpa ac m => exact .ordinary (ordinary_jumpOnAc h)
  | jumpge ac m => exact .ordinary (ordinary_jumpOnAc h)
  | jumpn ac m => exact .ordinary (ordinary_jumpOnAc h)
  | jumpg ac m => exact .ordinary (ordinary_jumpOnAc h)
  | skip ac m => exact .ordinary (ordinary_skipOnMemory h)
  | skipl ac m => exact .ordinary (ordinary_skipOnMemory h)
  | skipe ac m => exact .ordinary (ordinary_skipOnMemory h)
  | skiple ac m => exact .ordinary (ordinary_skipOnMemory h)
  | skipa ac m => exact .ordinary (ordinary_skipOnMemory h)
  | skipge ac m => exact .ordinary (ordinary_skipOnMemory h)
  | skipn ac m => exact .ordinary (ordinary_skipOnMemory h)
  | skipg ac m => exact .ordinary (ordinary_skipOnMemory h)
  | aoj ac m => exact .ordinary (ordinary_stepAndJump plusOne_modes h)
  | aojl ac m => exact .ordinary (ordinary_stepAndJump plusOne_modes h)
  | aoje ac m => exact .ordinary (ordinary_stepAndJump plusOne_modes h)
  | aojle ac m => exact .ordinary (ordinary_stepAndJump plusOne_modes h)
  | aoja ac m => exact .ordinary (ordinary_stepAndJump plusOne_modes h)
  | aojge ac m => exact .ordinary (ordinary_stepAndJump plusOne_modes h)
  | aojn ac m => exact .ordinary (ordinary_stepAndJump plusOne_modes h)
  | aojg ac m => exact .ordinary (ordinary_stepAndJump plusOne_modes h)
  | aos ac m => exact .ordinary (ordinary_stepAndSkip plusOne_modes h)
  | aosl ac m => exact .ordinary (ordinary_stepAndSkip plusOne_modes h)
  | aose ac m => exact .ordinary (ordinary_stepAndSkip plusOne_modes h)
  | aosle ac m => exact .ordinary (ordinary_stepAndSkip plusOne_modes h)
  | aosa ac m => exact .ordinary (ordinary_stepAndSkip plusOne_modes h)
  | aosge ac m => exact .ordinary (ordinary_stepAndSkip plusOne_modes h)
  | aosn ac m => exact .ordinary (ordinary_stepAndSkip plusOne_modes h)
  | aosg ac m => exact .ordinary (ordinary_stepAndSkip plusOne_modes h)
  | soj ac m => exact .ordinary (ordinary_stepAndJump minusOne_modes h)
  | sojl ac m => exact .ordinary (ordinary_stepAndJump minusOne_modes h)
  | soje ac m => exact .ordinary (ordinary_stepAndJump minusOne_modes h)
  | sojle ac m => exact .ordinary (ordinary_stepAndJump minusOne_modes h)
  | soja ac m => exact .ordinary (ordinary_stepAndJump minusOne_modes h)
  | sojge ac m => exact .ordinary (ordinary_stepAndJump minusOne_modes h)
  | sojn ac m => exact .ordinary (ordinary_stepAndJump minusOne_modes h)
  | sojg ac m => exact .ordinary (ordinary_stepAndJump minusOne_modes h)
  | sos ac m => exact .ordinary (ordinary_stepAndSkip minusOne_modes h)
  | sosl ac m => exact .ordinary (ordinary_stepAndSkip minusOne_modes h)
  | sose ac m => exact .ordinary (ordinary_stepAndSkip minusOne_modes h)
  | sosle ac m => exact .ordinary (ordinary_stepAndSkip minusOne_modes h)
  | sosa ac m => exact .ordinary (ordinary_stepAndSkip minusOne_modes h)
  | sosge ac m => exact .ordinary (ordinary_stepAndSkip minusOne_modes h)
  | sosn ac m => exact .ordinary (ordinary_stepAndSkip minusOne_modes h)
  | sosg ac m => exact .ordinary (ordinary_stepAndSkip minusOne_modes h)
  | aobjp ac m => exact .ordinary (ordinary_addBothAndJump h)
  | aobjn ac m => exact .ordinary (ordinary_addBothAndJump h)
  | jffo ac m => exact .ordinary (ordinary_execJffo h)
  | hll ac m => exact .ordinary (ordinary_halfBasic h)
  | hlli ac m => exact .ordinary (ordinary_halfImmediate h)
  | hllm ac m => exact .ordinary (ordinary_halfMemory h)
  | hlls ac m => exact .ordinary (ordinary_halfSelf h)
  | hrl ac m => exact .ordinary (ordinary_halfBasic h)
  | hrli ac m => exact .ordinary (ordinary_halfImmediate h)
  | hrlm ac m => exact .ordinary (ordinary_halfMemory h)
  | hrls ac m => exact .ordinary (ordinary_halfSelf h)
  | hllz ac m => exact .ordinary (ordinary_halfBasic h)
  | hllzi ac m => exact .ordinary (ordinary_halfImmediate h)
  | hllzm ac m => exact .ordinary (ordinary_halfMemory h)
  | hllzs ac m => exact .ordinary (ordinary_halfSelf h)
  | hrlz ac m => exact .ordinary (ordinary_halfBasic h)
  | hrlzi ac m => exact .ordinary (ordinary_halfImmediate h)
  | hrlzm ac m => exact .ordinary (ordinary_halfMemory h)
  | hrlzs ac m => exact .ordinary (ordinary_halfSelf h)
  | hllo ac m => exact .ordinary (ordinary_halfBasic h)
  | hlloi ac m => exact .ordinary (ordinary_halfImmediate h)
  | hllom ac m => exact .ordinary (ordinary_halfMemory h)
  | hllos ac m => exact .ordinary (ordinary_halfSelf h)
  | hrlo ac m => exact .ordinary (ordinary_halfBasic h)
  | hrloi ac m => exact .ordinary (ordinary_halfImmediate h)
  | hrlom ac m => exact .ordinary (ordinary_halfMemory h)
  | hrlos ac m => exact .ordinary (ordinary_halfSelf h)
  | hlle ac m => exact .ordinary (ordinary_halfBasic h)
  | hllei ac m => exact .ordinary (ordinary_halfImmediate h)
  | hllem ac m => exact .ordinary (ordinary_halfMemory h)
  | hlles ac m => exact .ordinary (ordinary_halfSelf h)
  | hrle ac m => exact .ordinary (ordinary_halfBasic h)
  | hrlei ac m => exact .ordinary (ordinary_halfImmediate h)
  | hrlem ac m => exact .ordinary (ordinary_halfMemory h)
  | hrles ac m => exact .ordinary (ordinary_halfSelf h)
  | hrr ac m => exact .ordinary (ordinary_halfBasic h)
  | hrri ac m => exact .ordinary (ordinary_halfImmediate h)
  | hrrm ac m => exact .ordinary (ordinary_halfMemory h)
  | hrrs ac m => exact .ordinary (ordinary_halfSelf h)
  | hlr ac m => exact .ordinary (ordinary_halfBasic h)
  | hlri ac m => exact .ordinary (ordinary_halfImmediate h)
  | hlrm ac m => exact .ordinary (ordinary_halfMemory h)
  | hlrs ac m => exact .ordinary (ordinary_halfSelf h)
  | hrrz ac m => exact .ordinary (ordinary_halfBasic h)
  | hrrzi ac m => exact .ordinary (ordinary_halfImmediate h)
  | hrrzm ac m => exact .ordinary (ordinary_halfMemory h)
  | hrrzs ac m => exact .ordinary (ordinary_halfSelf h)
  | hlrz ac m => exact .ordinary (ordinary_halfBasic h)
  | hlrzi ac m => exact .ordinary (ordinary_halfImmediate h)
  | hlrzm ac m => exact .ordinary (ordinary_halfMemory h)
  | hlrzs ac m => exact .ordinary (ordinary_halfSelf h)
  | hrro ac m => exact .ordinary (ordinary_halfBasic h)
  | hrroi ac m => exact .ordinary (ordinary_halfImmediate h)
  | hrrom ac m => exact .ordinary (ordinary_halfMemory h)
  | hrros ac m => exact .ordinary (ordinary_halfSelf h)
  | hlro ac m => exact .ordinary (ordinary_halfBasic h)
  | hlroi ac m => exact .ordinary (ordinary_halfImmediate h)
  | hlrom ac m => exact .ordinary (ordinary_halfMemory h)
  | hlros ac m => exact .ordinary (ordinary_halfSelf h)
  | hrre ac m => exact .ordinary (ordinary_halfBasic h)
  | hrrei ac m => exact .ordinary (ordinary_halfImmediate h)
  | hrrem ac m => exact .ordinary (ordinary_halfMemory h)
  | hrres ac m => exact .ordinary (ordinary_halfSelf h)
  | hlre ac m => exact .ordinary (ordinary_halfBasic h)
  | hlrei ac m => exact .ordinary (ordinary_halfImmediate h)
  | hlrem ac m => exact .ordinary (ordinary_halfMemory h)
  | hlres ac m => exact .ordinary (ordinary_halfSelf h)
  | trn ac m => exact .ordinary (ordinary_testImmediate h)
  | tln ac m => exact .ordinary (ordinary_testImmediate h)
  | trne ac m => exact .ordinary (ordinary_testImmediate h)
  | tlne ac m => exact .ordinary (ordinary_testImmediate h)
  | trna ac m => exact .ordinary (ordinary_testImmediate h)
  | tlna ac m => exact .ordinary (ordinary_testImmediate h)
  | trnn ac m => exact .ordinary (ordinary_testImmediate h)
  | tlnn ac m => exact .ordinary (ordinary_testImmediate h)
  | tdn ac m => exact .ordinary (ordinary_testMemory h)
  | tsn ac m => exact .ordinary (ordinary_testMemory h)
  | tdne ac m => exact .ordinary (ordinary_testMemory h)
  | tsne ac m => exact .ordinary (ordinary_testMemory h)
  | tdna ac m => exact .ordinary (ordinary_testMemory h)
  | tsna ac m => exact .ordinary (ordinary_testMemory h)
  | tdnn ac m => exact .ordinary (ordinary_testMemory h)
  | tsnn ac m => exact .ordinary (ordinary_testMemory h)
  | trz ac m => exact .ordinary (ordinary_testImmediate h)
  | tlz ac m => exact .ordinary (ordinary_testImmediate h)
  | trze ac m => exact .ordinary (ordinary_testImmediate h)
  | tlze ac m => exact .ordinary (ordinary_testImmediate h)
  | trza ac m => exact .ordinary (ordinary_testImmediate h)
  | tlza ac m => exact .ordinary (ordinary_testImmediate h)
  | trzn ac m => exact .ordinary (ordinary_testImmediate h)
  | tlzn ac m => exact .ordinary (ordinary_testImmediate h)
  | tdz ac m => exact .ordinary (ordinary_testMemory h)
  | tsz ac m => exact .ordinary (ordinary_testMemory h)
  | tdze ac m => exact .ordinary (ordinary_testMemory h)
  | tsze ac m => exact .ordinary (ordinary_testMemory h)
  | tdza ac m => exact .ordinary (ordinary_testMemory h)
  | tsza ac m => exact .ordinary (ordinary_testMemory h)
  | tdzn ac m => exact .ordinary (ordinary_testMemory h)
  | tszn ac m => exact .ordinary (ordinary_testMemory h)
  | trc ac m => exact .ordinary (ordinary_testImmediate h)
  | tlc ac m => exact .ordinary (ordinary_testImmediate h)
  | trce ac m => exact .ordinary (ordinary_testImmediate h)
  | tlce ac m => exact .ordinary (ordinary_testImmediate h)
  | trca ac m => exact .ordinary (ordinary_testImmediate h)
  | tlca ac m => exact .ordinary (ordinary_testImmediate h)
  | trcn ac m => exact .ordinary (ordinary_testImmediate h)
  | tlcn ac m => exact .ordinary (ordinary_testImmediate h)
  | tdc ac m => exact .ordinary (ordinary_testMemory h)
  | tsc ac m => exact .ordinary (ordinary_testMemory h)
  | tdce ac m => exact .ordinary (ordinary_testMemory h)
  | tsce ac m => exact .ordinary (ordinary_testMemory h)
  | tdca ac m => exact .ordinary (ordinary_testMemory h)
  | tsca ac m => exact .ordinary (ordinary_testMemory h)
  | tdcn ac m => exact .ordinary (ordinary_testMemory h)
  | tscn ac m => exact .ordinary (ordinary_testMemory h)
  | tro ac m => exact .ordinary (ordinary_testImmediate h)
  | tlo ac m => exact .ordinary (ordinary_testImmediate h)
  | troe ac m => exact .ordinary (ordinary_testImmediate h)
  | tloe ac m => exact .ordinary (ordinary_testImmediate h)
  | troa ac m => exact .ordinary (ordinary_testImmediate h)
  | tloa ac m => exact .ordinary (ordinary_testImmediate h)
  | tron ac m => exact .ordinary (ordinary_testImmediate h)
  | tlon ac m => exact .ordinary (ordinary_testImmediate h)
  | tdo ac m => exact .ordinary (ordinary_testMemory h)
  | tso ac m => exact .ordinary (ordinary_testMemory h)
  | tdoe ac m => exact .ordinary (ordinary_testMemory h)
  | tsoe ac m => exact .ordinary (ordinary_testMemory h)
  | tdoa ac m => exact .ordinary (ordinary_testMemory h)
  | tsoa ac m => exact .ordinary (ordinary_testMemory h)
  | tdon ac m => exact .ordinary (ordinary_testMemory h)
  | tson ac m => exact .ordinary (ordinary_testMemory h)
  | jrst m => exact .ordinary (ordinary_plainJump h)
  | portal m => exact .ordinary (ordinary_plainJump h)
  | jrstf m => exact kind_execJrstf h
  | halt m => exact kind_execHalt h
  | jrst10 m => exact kind_execJrst10 h
  | jen m => exact kind_execJen h
  | jrstFn3 m => exact kind_unassignedCall (headField_append _ _) h
  | jrstFn5 m => exact kind_unassignedCall (headField_append _ _) h
  | jrstFn6 m => exact kind_unassignedCall (headField_append _ _) h
  | jrstFn7 m => exact kind_unassignedCall (headField_append _ _) h
  | jrstFn11 m => exact kind_unassignedCall (headField_append _ _) h
  | jrstFn13 m => exact kind_unassignedCall (headField_append _ _) h
  | jrstFn14 m => exact kind_unassignedCall (headField_append _ _) h
  | jrstFn15 m => exact kind_unassignedCall (headField_append _ _) h
  | jrstFn16 m => exact kind_unassignedCall (headField_append _ _) h
  | jrstFn17 m => exact kind_unassignedCall (headField_append _ _) h
  | jfcl ac m => exact .ordinary (ordinary_execJfcl h)
  | xct ac m => exact .ordinary (ordinary_execXct (ac := ac) h)
  | jsr ac m => exact kind_execJsr h
  | jsp ac m => exact kind_execJsp h
  | jsa ac m => exact .ordinary (ordinary_execJsa h)
  | jra ac m => exact .ordinary (ordinary_execJra h)
  | pushj ac m => exact kind_execPushj h
  | popj ac m => exact .ordinary (ordinary_execPopj h)
  | push ac m => exact .ordinary (ordinary_execPush h)
  | pop ac m => exact .ordinary (ordinary_execPop h)
  | adjsp ac m => exact .ordinary (ordinary_execAdjsp h)
  | ibp m => exact .ordinary (ordinary_execIbp h)
  | adjbp ac m => exact .ordinary (ordinary_execAdjbp h)
  | ildb ac m => exact .ordinary (ordinary_execIldb h)
  | ldb ac m => exact .ordinary (ordinary_execLdb h)
  | idpb ac m => exact .ordinary (ordinary_execIdpb h)
  | dpb ac m => exact .ordinary (ordinary_execDpb h)
  | muuo ac m => exact kind_monitorCall (headField_append _ _) h
  | luuo001 ac m => exact .ordinary (ordinary_localCall h)
  | luuo002 ac m => exact .ordinary (ordinary_localCall h)
  | luuo003 ac m => exact .ordinary (ordinary_localCall h)
  | luuo004 ac m => exact .ordinary (ordinary_localCall h)
  | luuo005 ac m => exact .ordinary (ordinary_localCall h)
  | luuo006 ac m => exact .ordinary (ordinary_localCall h)
  | luuo007 ac m => exact .ordinary (ordinary_localCall h)
  | luuo010 ac m => exact .ordinary (ordinary_localCall h)
  | luuo011 ac m => exact .ordinary (ordinary_localCall h)
  | luuo012 ac m => exact .ordinary (ordinary_localCall h)
  | luuo013 ac m => exact .ordinary (ordinary_localCall h)
  | luuo014 ac m => exact .ordinary (ordinary_localCall h)
  | luuo015 ac m => exact .ordinary (ordinary_localCall h)
  | luuo016 ac m => exact .ordinary (ordinary_localCall h)
  | luuo017 ac m => exact .ordinary (ordinary_localCall h)
  | luuo020 ac m => exact .ordinary (ordinary_localCall h)
  | luuo021 ac m => exact .ordinary (ordinary_localCall h)
  | luuo022 ac m => exact .ordinary (ordinary_localCall h)
  | luuo023 ac m => exact .ordinary (ordinary_localCall h)
  | luuo024 ac m => exact .ordinary (ordinary_localCall h)
  | luuo025 ac m => exact .ordinary (ordinary_localCall h)
  | luuo026 ac m => exact .ordinary (ordinary_localCall h)
  | luuo027 ac m => exact .ordinary (ordinary_localCall h)
  | luuo030 ac m => exact .ordinary (ordinary_localCall h)
  | luuo031 ac m => exact .ordinary (ordinary_localCall h)
  | luuo032 ac m => exact .ordinary (ordinary_localCall h)
  | luuo033 ac m => exact .ordinary (ordinary_localCall h)
  | luuo034 ac m => exact .ordinary (ordinary_localCall h)
  | luuo035 ac m => exact .ordinary (ordinary_localCall h)
  | luuo036 ac m => exact .ordinary (ordinary_localCall h)
  | luuo037 ac m => exact .ordinary (ordinary_localCall h)
  | muuo040 ac m => exact kind_monitorCall (headField_append _ _) h
  | muuo041 ac m => exact kind_monitorCall (headField_append _ _) h
  | muuo042 ac m => exact kind_monitorCall (headField_append _ _) h
  | muuo043 ac m => exact kind_monitorCall (headField_append _ _) h
  | muuo044 ac m => exact kind_monitorCall (headField_append _ _) h
  | muuo045 ac m => exact kind_monitorCall (headField_append _ _) h
  | muuo046 ac m => exact kind_monitorCall (headField_append _ _) h
  | muuo047 ac m => exact kind_monitorCall (headField_append _ _) h
  | muuo050 ac m => exact kind_monitorCall (headField_append _ _) h
  | muuo051 ac m => exact kind_monitorCall (headField_append _ _) h
  | muuo052 ac m => exact kind_monitorCall (headField_append _ _) h
  | muuo053 ac m => exact kind_monitorCall (headField_append _ _) h
  | muuo054 ac m => exact kind_monitorCall (headField_append _ _) h
  | muuo055 ac m => exact kind_monitorCall (headField_append _ _) h
  | muuo056 ac m => exact kind_monitorCall (headField_append _ _) h
  | muuo057 ac m => exact kind_monitorCall (headField_append _ _) h
  | muuo060 ac m => exact kind_monitorCall (headField_append _ _) h
  | muuo061 ac m => exact kind_monitorCall (headField_append _ _) h
  | muuo062 ac m => exact kind_monitorCall (headField_append _ _) h
  | muuo063 ac m => exact kind_monitorCall (headField_append _ _) h
  | muuo064 ac m => exact kind_monitorCall (headField_append _ _) h
  | muuo065 ac m => exact kind_monitorCall (headField_append _ _) h
  | muuo066 ac m => exact kind_monitorCall (headField_append _ _) h
  | muuo067 ac m => exact kind_monitorCall (headField_append _ _) h
  | muuo070 ac m => exact kind_monitorCall (headField_append _ _) h
  | muuo071 ac m => exact kind_monitorCall (headField_append _ _) h
  | muuo072 ac m => exact kind_monitorCall (headField_append _ _) h
  | muuo073 ac m => exact kind_monitorCall (headField_append _ _) h
  | muuo074 ac m => exact kind_monitorCall (headField_append _ _) h
  | muuo075 ac m => exact kind_monitorCall (headField_append _ _) h
  | muuo076 ac m => exact kind_monitorCall (headField_append _ _) h
  | muuo077 ac m => exact kind_monitorCall (headField_append _ _) h
  | unassigned100 ac m => exact kind_unassignedCall (headField_append _ _) h
  | unassigned101 ac m => exact kind_unassignedCall (headField_append _ _) h
  | unassigned102 ac m => exact kind_unassignedCall (headField_append _ _) h
  | unassigned103 ac m => exact kind_unassignedCall (headField_append _ _) h
  | unassigned104 ac m => exact kind_unassignedCall (headField_append _ _) h
  | unassigned106 ac m => exact kind_unassignedCall (headField_append _ _) h
  | unassigned107 ac m => exact kind_unassignedCall (headField_append _ _) h
  | unassigned110 ac m => exact kind_unassignedCall (headField_append _ _) h
  | unassigned111 ac m => exact kind_unassignedCall (headField_append _ _) h
  | unassigned112 ac m => exact kind_unassignedCall (headField_append _ _) h
  | unassigned113 ac m => exact kind_unassignedCall (headField_append _ _) h
  | unassigned122 ac m => exact kind_unassignedCall (headField_append _ _) h
  | unassigned123 ac m => exact kind_unassignedCall (headField_append _ _) h
  | unassigned126 ac m => exact kind_unassignedCall (headField_append _ _) h
  | unassigned127 ac m => exact kind_unassignedCall (headField_append _ _) h
  | unassigned130 ac m => exact kind_unassignedCall (headField_append _ _) h
  | unassigned131 ac m => exact kind_unassignedCall (headField_append _ _) h
  | unassigned132 ac m => exact kind_unassignedCall (headField_append _ _) h
  | unassigned140 ac m => exact kind_unassignedCall (headField_append _ _) h
  | unassigned141 ac m => exact kind_unassignedCall (headField_append _ _) h
  | unassigned142 ac m => exact kind_unassignedCall (headField_append _ _) h
  | unassigned143 ac m => exact kind_unassignedCall (headField_append _ _) h
  | unassigned144 ac m => exact kind_unassignedCall (headField_append _ _) h
  | unassigned145 ac m => exact kind_unassignedCall (headField_append _ _) h
  | unassigned146 ac m => exact kind_unassignedCall (headField_append _ _) h
  | unassigned147 ac m => exact kind_unassignedCall (headField_append _ _) h
  | unassigned150 ac m => exact kind_unassignedCall (headField_append _ _) h
  | unassigned151 ac m => exact kind_unassignedCall (headField_append _ _) h
  | unassigned152 ac m => exact kind_unassignedCall (headField_append _ _) h
  | unassigned153 ac m => exact kind_unassignedCall (headField_append _ _) h
  | unassigned154 ac m => exact kind_unassignedCall (headField_append _ _) h
  | unassigned155 ac m => exact kind_unassignedCall (headField_append _ _) h
  | unassigned156 ac m => exact kind_unassignedCall (headField_append _ _) h
  | unassigned157 ac m => exact kind_unassignedCall (headField_append _ _) h
  | unassigned160 ac m => exact kind_unassignedCall (headField_append _ _) h
  | unassigned161 ac m => exact kind_unassignedCall (headField_append _ _) h
  | unassigned162 ac m => exact kind_unassignedCall (headField_append _ _) h
  | unassigned163 ac m => exact kind_unassignedCall (headField_append _ _) h
  | unassigned164 ac m => exact kind_unassignedCall (headField_append _ _) h
  | unassigned165 ac m => exact kind_unassignedCall (headField_append _ _) h
  | unassigned166 ac m => exact kind_unassignedCall (headField_append _ _) h
  | unassigned167 ac m => exact kind_unassignedCall (headField_append _ _) h
  | unassigned170 ac m => exact kind_unassignedCall (headField_append _ _) h
  | unassigned171 ac m => exact kind_unassignedCall (headField_append _ _) h
  | unassigned172 ac m => exact kind_unassignedCall (headField_append _ _) h
  | unassigned173 ac m => exact kind_unassignedCall (headField_append _ _) h
  | unassigned174 ac m => exact kind_unassignedCall (headField_append _ _) h
  | unassigned175 ac m => exact kind_unassignedCall (headField_append _ _) h
  | unassigned176 ac m => exact kind_unassignedCall (headField_append _ _) h
  | unassigned177 ac m => exact kind_unassignedCall (headField_append _ _) h
  | unassigned247 ac m => exact kind_unassignedCall (headField_append _ _) h
  | unassigned257 ac m => exact kind_unassignedCall (headField_append _ _) h
  | blki dev m => exact kind_ioInstruction (op := .blki) (dev := dev) (headField_append _ _) controllerRefuses_next blockIn_next h
  | datai dev m => exact kind_ioInstruction (op := .datai) (dev := dev) (headField_append _ _) controllerRefuses_next dataIn_next h
  | blko dev m => exact kind_ioInstruction (op := .blko) (dev := dev) (headField_append _ _) controllerRefuses_next blockOut_next h
  | datao dev m => exact kind_ioInstruction (op := .datao) (dev := dev) (headField_append _ _) controllerRefuses_next dataOut_next h
  | cono dev m => exact kind_ioInstruction (op := .cono) (dev := dev) (headField_append _ _) controllerCono_next conditionsOut_next h
  | coni dev m => exact kind_ioInstruction (op := .coni) (dev := dev) (headField_append _ _) controllerConi_next conditionsIn_next h
  | consz dev m => exact kind_ioInstruction (op := .consz) (dev := dev) (headField_append _ _) controllerConsz_next skipOnZero_next h
  | conso dev m => exact kind_ioInstruction (op := .conso) (dev := dev) (headField_append _ _) controllerConso_next skipOnNonzero_next h

end Sys2Proof.Machine
end

