-- ==== Sys2Proof/Laws/PerInstr.lean ====
section
/-!
SUPPORT. Statements made per instruction. RoundTrip: decoding the word of a well-formed instruction gives the
instruction back (R80, R81, R89 to R91).
-/

namespace Sys2Proof.Laws

/-- The word of the instruction decodes to it. -/
def RoundTrip.Statement (i : Instr) : Prop := i.wellFormed = true → decode (encode i) = i

theorem RoundTrip.move (ac : AcNum) (m : AddrPart) : RoundTrip.Statement (.move ac m) := fun _ =>
  decode_block 2 0 rfl (by decide) rfl ac m
theorem RoundTrip.movei (ac : AcNum) (m : AddrPart) : RoundTrip.Statement (.movei ac m) := fun _ =>
  decode_block 2 1 rfl (by decide) rfl ac m
theorem RoundTrip.movem (ac : AcNum) (m : AddrPart) : RoundTrip.Statement (.movem ac m) := fun _ =>
  decode_block 2 2 rfl (by decide) rfl ac m
theorem RoundTrip.moves (ac : AcNum) (m : AddrPart) : RoundTrip.Statement (.moves ac m) := fun _ =>
  decode_block 2 3 rfl (by decide) rfl ac m
theorem RoundTrip.movs (ac : AcNum) (m : AddrPart) : RoundTrip.Statement (.movs ac m) := fun _ =>
  decode_block 2 4 rfl (by decide) rfl ac m
theorem RoundTrip.movsi (ac : AcNum) (m : AddrPart) : RoundTrip.Statement (.movsi ac m) := fun _ =>
  decode_block 2 5 rfl (by decide) rfl ac m
theorem RoundTrip.movsm (ac : AcNum) (m : AddrPart) : RoundTrip.Statement (.movsm ac m) := fun _ =>
  decode_block 2 6 rfl (by decide) rfl ac m
theorem RoundTrip.movss (ac : AcNum) (m : AddrPart) : RoundTrip.Statement (.movss ac m) := fun _ =>
  decode_block 2 7 rfl (by decide) rfl ac m
theorem RoundTrip.movn (ac : AcNum) (m : AddrPart) : RoundTrip.Statement (.movn ac m) := fun _ =>
  decode_block 2 8 rfl (by decide) rfl ac m
theorem RoundTrip.movni (ac : AcNum) (m : AddrPart) : RoundTrip.Statement (.movni ac m) := fun _ =>
  decode_block 2 9 rfl (by decide) rfl ac m
theorem RoundTrip.movnm (ac : AcNum) (m : AddrPart) : RoundTrip.Statement (.movnm ac m) := fun _ =>
  decode_block 2 10 rfl (by decide) rfl ac m
theorem RoundTrip.movns (ac : AcNum) (m : AddrPart) : RoundTrip.Statement (.movns ac m) := fun _ =>
  decode_block 2 11 rfl (by decide) rfl ac m
theorem RoundTrip.movm (ac : AcNum) (m : AddrPart) : RoundTrip.Statement (.movm ac m) := fun _ =>
  decode_block 2 12 rfl (by decide) rfl ac m
theorem RoundTrip.movmi (ac : AcNum) (m : AddrPart) : RoundTrip.Statement (.movmi ac m) := fun _ =>
  decode_block 2 13 rfl (by decide) rfl ac m
theorem RoundTrip.movmm (ac : AcNum) (m : AddrPart) : RoundTrip.Statement (.movmm ac m) := fun _ =>
  decode_block 2 14 rfl (by decide) rfl ac m
theorem RoundTrip.movms (ac : AcNum) (m : AddrPart) : RoundTrip.Statement (.movms ac m) := fun _ =>
  decode_block 2 15 rfl (by decide) rfl ac m
theorem RoundTrip.exch (ac : AcNum) (m : AddrPart) : RoundTrip.Statement (.exch ac m) := fun _ =>
  decode_block 2 40 rfl (by decide) rfl ac m
theorem RoundTrip.blt (ac : AcNum) (m : AddrPart) : RoundTrip.Statement (.blt ac m) := fun _ =>
  decode_block 2 41 rfl (by decide) rfl ac m
theorem RoundTrip.dmove (ac : AcNum) (m : AddrPart) : RoundTrip.Statement (.dmove ac m) := fun _ =>
  decode_block 1 16 rfl (by decide) rfl ac m
theorem RoundTrip.dmovn (ac : AcNum) (m : AddrPart) : RoundTrip.Statement (.dmovn ac m) := fun _ =>
  decode_block 1 17 rfl (by decide) rfl ac m
theorem RoundTrip.dmovem (ac : AcNum) (m : AddrPart) : RoundTrip.Statement (.dmovem ac m) := fun _ =>
  decode_block 1 20 rfl (by decide) rfl ac m
theorem RoundTrip.dmovnm (ac : AcNum) (m : AddrPart) : RoundTrip.Statement (.dmovnm ac m) := fun _ =>
  decode_block 1 21 rfl (by decide) rfl ac m
theorem RoundTrip.add (ac : AcNum) (m : AddrPart) : RoundTrip.Statement (.add ac m) := fun _ =>
  decode_block 2 56 rfl (by decide) rfl ac m
theorem RoundTrip.addi (ac : AcNum) (m : AddrPart) : RoundTrip.Statement (.addi ac m) := fun _ =>
  decode_block 2 57 rfl (by decide) rfl ac m
theorem RoundTrip.addm (ac : AcNum) (m : AddrPart) : RoundTrip.Statement (.addm ac m) := fun _ =>
  decode_block 2 58 rfl (by decide) rfl ac m
theorem RoundTrip.addb (ac : AcNum) (m : AddrPart) : RoundTrip.Statement (.addb ac m) := fun _ =>
  decode_block 2 59 rfl (by decide) rfl ac m
theorem RoundTrip.sub (ac : AcNum) (m : AddrPart) : RoundTrip.Statement (.sub ac m) := fun _ =>
  decode_block 2 60 rfl (by decide) rfl ac m
theorem RoundTrip.subi (ac : AcNum) (m : AddrPart) : RoundTrip.Statement (.subi ac m) := fun _ =>
  decode_block 2 61 rfl (by decide) rfl ac m
theorem RoundTrip.subm (ac : AcNum) (m : AddrPart) : RoundTrip.Statement (.subm ac m) := fun _ =>
  decode_block 2 62 rfl (by decide) rfl ac m
theorem RoundTrip.subb (ac : AcNum) (m : AddrPart) : RoundTrip.Statement (.subb ac m) := fun _ =>
  decode_block 2 63 rfl (by decide) rfl ac m
theorem RoundTrip.imul (ac : AcNum) (m : AddrPart) : RoundTrip.Statement (.imul ac m) := fun _ =>
  decode_block 2 16 rfl (by decide) rfl ac m
theorem RoundTrip.imuli (ac : AcNum) (m : AddrPart) : RoundTrip.Statement (.imuli ac m) := fun _ =>
  decode_block 2 17 rfl (by decide) rfl ac m
theorem RoundTrip.imulm (ac : AcNum) (m : AddrPart) : RoundTrip.Statement (.imulm ac m) := fun _ =>
  decode_block 2 18 rfl (by decide) rfl ac m
theorem RoundTrip.imulb (ac : AcNum) (m : AddrPart) : RoundTrip.Statement (.imulb ac m) := fun _ =>
  decode_block 2 19 rfl (by decide) rfl ac m
theorem RoundTrip.mul (ac : AcNum) (m : AddrPart) : RoundTrip.Statement (.mul ac m) := fun _ =>
  decode_block 2 20 rfl (by decide) rfl ac m
theorem RoundTrip.muli (ac : AcNum) (m : AddrPart) : RoundTrip.Statement (.muli ac m) := fun _ =>
  decode_block 2 21 rfl (by decide) rfl ac m
theorem RoundTrip.mulm (ac : AcNum) (m : AddrPart) : RoundTrip.Statement (.mulm ac m) := fun _ =>
  decode_block 2 22 rfl (by decide) rfl ac m
theorem RoundTrip.mulb (ac : AcNum) (m : AddrPart) : RoundTrip.Statement (.mulb ac m) := fun _ =>
  decode_block 2 23 rfl (by decide) rfl ac m
theorem RoundTrip.idiv (ac : AcNum) (m : AddrPart) : RoundTrip.Statement (.idiv ac m) := fun _ =>
  decode_block 2 24 rfl (by decide) rfl ac m
theorem RoundTrip.idivi (ac : AcNum) (m : AddrPart) : RoundTrip.Statement (.idivi ac m) := fun _ =>
  decode_block 2 25 rfl (by decide) rfl ac m
theorem RoundTrip.idivm (ac : AcNum) (m : AddrPart) : RoundTrip.Statement (.idivm ac m) := fun _ =>
  decode_block 2 26 rfl (by decide) rfl ac m
theorem RoundTrip.idivb (ac : AcNum) (m : AddrPart) : RoundTrip.Statement (.idivb ac m) := fun _ =>
  decode_block 2 27 rfl (by decide) rfl ac m
theorem RoundTrip.div (ac : AcNum) (m : AddrPart) : RoundTrip.Statement (.div ac m) := fun _ =>
  decode_block 2 28 rfl (by decide) rfl ac m
theorem RoundTrip.divi (ac : AcNum) (m : AddrPart) : RoundTrip.Statement (.divi ac m) := fun _ =>
  decode_block 2 29 rfl (by decide) rfl ac m
theorem RoundTrip.divm (ac : AcNum) (m : AddrPart) : RoundTrip.Statement (.divm ac m) := fun _ =>
  decode_block 2 30 rfl (by decide) rfl ac m
theorem RoundTrip.divb (ac : AcNum) (m : AddrPart) : RoundTrip.Statement (.divb ac m) := fun _ =>
  decode_block 2 31 rfl (by decide) rfl ac m
theorem RoundTrip.dadd (ac : AcNum) (m : AddrPart) : RoundTrip.Statement (.dadd ac m) := fun _ =>
  decode_block 1 12 rfl (by decide) rfl ac m
theorem RoundTrip.dsub (ac : AcNum) (m : AddrPart) : RoundTrip.Statement (.dsub ac m) := fun _ =>
  decode_block 1 13 rfl (by decide) rfl ac m
theorem RoundTrip.dmul (ac : AcNum) (m : AddrPart) : RoundTrip.Statement (.dmul ac m) := fun _ =>
  decode_block 1 14 rfl (by decide) rfl ac m
theorem RoundTrip.ddiv (ac : AcNum) (m : AddrPart) : RoundTrip.Statement (.ddiv ac m) := fun _ =>
  decode_block 1 15 rfl (by decide) rfl ac m
theorem RoundTrip.setz (ac : AcNum) (m : AddrPart) : RoundTrip.Statement (.setz ac m) := fun _ =>
  decode_block 4 0 rfl (by decide) rfl ac m
theorem RoundTrip.setzi (ac : AcNum) (m : AddrPart) : RoundTrip.Statement (.setzi ac m) := fun _ =>
  decode_block 4 1 rfl (by decide) rfl ac m
theorem RoundTrip.setzm (ac : AcNum) (m : AddrPart) : RoundTrip.Statement (.setzm ac m) := fun _ =>
  decode_block 4 2 rfl (by decide) rfl ac m
theorem RoundTrip.setzb (ac : AcNum) (m : AddrPart) : RoundTrip.Statement (.setzb ac m) := fun _ =>
  decode_block 4 3 rfl (by decide) rfl ac m
theorem RoundTrip.and (ac : AcNum) (m : AddrPart) : RoundTrip.Statement (.and ac m) := fun _ =>
  decode_block 4 4 rfl (by decide) rfl ac m
theorem RoundTrip.andi (ac : AcNum) (m : AddrPart) : RoundTrip.Statement (.andi ac m) := fun _ =>
  decode_block 4 5 rfl (by decide) rfl ac m
theorem RoundTrip.andm (ac : AcNum) (m : AddrPart) : RoundTrip.Statement (.andm ac m) := fun _ =>
  decode_block 4 6 rfl (by decide) rfl ac m
theorem RoundTrip.andb (ac : AcNum) (m : AddrPart) : RoundTrip.Statement (.andb ac m) := fun _ =>
  decode_block 4 7 rfl (by decide) rfl ac m
theorem RoundTrip.andca (ac : AcNum) (m : AddrPart) : RoundTrip.Statement (.andca ac m) := fun _ =>
  decode_block 4 8 rfl (by decide) rfl ac m
theorem RoundTrip.andcai (ac : AcNum) (m : AddrPart) : RoundTrip.Statement (.andcai ac m) := fun _ =>
  decode_block 4 9 rfl (by decide) rfl ac m
theorem RoundTrip.andcam (ac : AcNum) (m : AddrPart) : RoundTrip.Statement (.andcam ac m) := fun _ =>
  decode_block 4 10 rfl (by decide) rfl ac m
theorem RoundTrip.andcab (ac : AcNum) (m : AddrPart) : RoundTrip.Statement (.andcab ac m) := fun _ =>
  decode_block 4 11 rfl (by decide) rfl ac m
theorem RoundTrip.setm (ac : AcNum) (m : AddrPart) : RoundTrip.Statement (.setm ac m) := fun _ =>
  decode_block 4 12 rfl (by decide) rfl ac m
theorem RoundTrip.setmi (ac : AcNum) (m : AddrPart) : RoundTrip.Statement (.setmi ac m) := fun _ =>
  decode_block 4 13 rfl (by decide) rfl ac m
theorem RoundTrip.setmm (ac : AcNum) (m : AddrPart) : RoundTrip.Statement (.setmm ac m) := fun _ =>
  decode_block 4 14 rfl (by decide) rfl ac m
theorem RoundTrip.setmb (ac : AcNum) (m : AddrPart) : RoundTrip.Statement (.setmb ac m) := fun _ =>
  decode_block 4 15 rfl (by decide) rfl ac m
theorem RoundTrip.andcm (ac : AcNum) (m : AddrPart) : RoundTrip.Statement (.andcm ac m) := fun _ =>
  decode_block 4 16 rfl (by decide) rfl ac m
theorem RoundTrip.andcmi (ac : AcNum) (m : AddrPart) : RoundTrip.Statement (.andcmi ac m) := fun _ =>
  decode_block 4 17 rfl (by decide) rfl ac m
theorem RoundTrip.andcmm (ac : AcNum) (m : AddrPart) : RoundTrip.Statement (.andcmm ac m) := fun _ =>
  decode_block 4 18 rfl (by decide) rfl ac m
theorem RoundTrip.andcmb (ac : AcNum) (m : AddrPart) : RoundTrip.Statement (.andcmb ac m) := fun _ =>
  decode_block 4 19 rfl (by decide) rfl ac m
theorem RoundTrip.seta (ac : AcNum) (m : AddrPart) : RoundTrip.Statement (.seta ac m) := fun _ =>
  decode_block 4 20 rfl (by decide) rfl ac m
theorem RoundTrip.setai (ac : AcNum) (m : AddrPart) : RoundTrip.Statement (.setai ac m) := fun _ =>
  decode_block 4 21 rfl (by decide) rfl ac m
theorem RoundTrip.setam (ac : AcNum) (m : AddrPart) : RoundTrip.Statement (.setam ac m) := fun _ =>
  decode_block 4 22 rfl (by decide) rfl ac m
theorem RoundTrip.setab (ac : AcNum) (m : AddrPart) : RoundTrip.Statement (.setab ac m) := fun _ =>
  decode_block 4 23 rfl (by decide) rfl ac m
theorem RoundTrip.xor (ac : AcNum) (m : AddrPart) : RoundTrip.Statement (.xor ac m) := fun _ =>
  decode_block 4 24 rfl (by decide) rfl ac m
theorem RoundTrip.xori (ac : AcNum) (m : AddrPart) : RoundTrip.Statement (.xori ac m) := fun _ =>
  decode_block 4 25 rfl (by decide) rfl ac m
theorem RoundTrip.xorm (ac : AcNum) (m : AddrPart) : RoundTrip.Statement (.xorm ac m) := fun _ =>
  decode_block 4 26 rfl (by decide) rfl ac m
theorem RoundTrip.xorb (ac : AcNum) (m : AddrPart) : RoundTrip.Statement (.xorb ac m) := fun _ =>
  decode_block 4 27 rfl (by decide) rfl ac m
theorem RoundTrip.ior (ac : AcNum) (m : AddrPart) : RoundTrip.Statement (.ior ac m) := fun _ =>
  decode_block 4 28 rfl (by decide) rfl ac m
theorem RoundTrip.iori (ac : AcNum) (m : AddrPart) : RoundTrip.Statement (.iori ac m) := fun _ =>
  decode_block 4 29 rfl (by decide) rfl ac m
theorem RoundTrip.iorm (ac : AcNum) (m : AddrPart) : RoundTrip.Statement (.iorm ac m) := fun _ =>
  decode_block 4 30 rfl (by decide) rfl ac m
theorem RoundTrip.iorb (ac : AcNum) (m : AddrPart) : RoundTrip.Statement (.iorb ac m) := fun _ =>
  decode_block 4 31 rfl (by decide) rfl ac m
theorem RoundTrip.andcb (ac : AcNum) (m : AddrPart) : RoundTrip.Statement (.andcb ac m) := fun _ =>
  decode_block 4 32 rfl (by decide) rfl ac m
theorem RoundTrip.andcbi (ac : AcNum) (m : AddrPart) : RoundTrip.Statement (.andcbi ac m) := fun _ =>
  decode_block 4 33 rfl (by decide) rfl ac m
theorem RoundTrip.andcbm (ac : AcNum) (m : AddrPart) : RoundTrip.Statement (.andcbm ac m) := fun _ =>
  decode_block 4 34 rfl (by decide) rfl ac m
theorem RoundTrip.andcbb (ac : AcNum) (m : AddrPart) : RoundTrip.Statement (.andcbb ac m) := fun _ =>
  decode_block 4 35 rfl (by decide) rfl ac m
theorem RoundTrip.eqv (ac : AcNum) (m : AddrPart) : RoundTrip.Statement (.eqv ac m) := fun _ =>
  decode_block 4 36 rfl (by decide) rfl ac m
theorem RoundTrip.eqvi (ac : AcNum) (m : AddrPart) : RoundTrip.Statement (.eqvi ac m) := fun _ =>
  decode_block 4 37 rfl (by decide) rfl ac m
theorem RoundTrip.eqvm (ac : AcNum) (m : AddrPart) : RoundTrip.Statement (.eqvm ac m) := fun _ =>
  decode_block 4 38 rfl (by decide) rfl ac m
theorem RoundTrip.eqvb (ac : AcNum) (m : AddrPart) : RoundTrip.Statement (.eqvb ac m) := fun _ =>
  decode_block 4 39 rfl (by decide) rfl ac m
theorem RoundTrip.setca (ac : AcNum) (m : AddrPart) : RoundTrip.Statement (.setca ac m) := fun _ =>
  decode_block 4 40 rfl (by decide) rfl ac m
theorem RoundTrip.setcai (ac : AcNum) (m : AddrPart) : RoundTrip.Statement (.setcai ac m) := fun _ =>
  decode_block 4 41 rfl (by decide) rfl ac m
theorem RoundTrip.setcam (ac : AcNum) (m : AddrPart) : RoundTrip.Statement (.setcam ac m) := fun _ =>
  decode_block 4 42 rfl (by decide) rfl ac m
theorem RoundTrip.setcab (ac : AcNum) (m : AddrPart) : RoundTrip.Statement (.setcab ac m) := fun _ =>
  decode_block 4 43 rfl (by decide) rfl ac m
theorem RoundTrip.orca (ac : AcNum) (m : AddrPart) : RoundTrip.Statement (.orca ac m) := fun _ =>
  decode_block 4 44 rfl (by decide) rfl ac m
theorem RoundTrip.orcai (ac : AcNum) (m : AddrPart) : RoundTrip.Statement (.orcai ac m) := fun _ =>
  decode_block 4 45 rfl (by decide) rfl ac m
theorem RoundTrip.orcam (ac : AcNum) (m : AddrPart) : RoundTrip.Statement (.orcam ac m) := fun _ =>
  decode_block 4 46 rfl (by decide) rfl ac m
theorem RoundTrip.orcab (ac : AcNum) (m : AddrPart) : RoundTrip.Statement (.orcab ac m) := fun _ =>
  decode_block 4 47 rfl (by decide) rfl ac m
theorem RoundTrip.setcm (ac : AcNum) (m : AddrPart) : RoundTrip.Statement (.setcm ac m) := fun _ =>
  decode_block 4 48 rfl (by decide) rfl ac m
theorem RoundTrip.setcmi (ac : AcNum) (m : AddrPart) : RoundTrip.Statement (.setcmi ac m) := fun _ =>
  decode_block 4 49 rfl (by decide) rfl ac m
theorem RoundTrip.setcmm (ac : AcNum) (m : AddrPart) : RoundTrip.Statement (.setcmm ac m) := fun _ =>
  decode_block 4 50 rfl (by decide) rfl ac m
theorem RoundTrip.setcmb (ac : AcNum) (m : AddrPart) : RoundTrip.Statement (.setcmb ac m) := fun _ =>
  decode_block 4 51 rfl (by decide) rfl ac m
theorem RoundTrip.orcm (ac : AcNum) (m : AddrPart) : RoundTrip.Statement (.orcm ac m) := fun _ =>
  decode_block 4 52 rfl (by decide) rfl ac m
theorem RoundTrip.orcmi (ac : AcNum) (m : AddrPart) : RoundTrip.Statement (.orcmi ac m) := fun _ =>
  decode_block 4 53 rfl (by decide) rfl ac m
theorem RoundTrip.orcmm (ac : AcNum) (m : AddrPart) : RoundTrip.Statement (.orcmm ac m) := fun _ =>
  decode_block 4 54 rfl (by decide) rfl ac m
theorem RoundTrip.orcmb (ac : AcNum) (m : AddrPart) : RoundTrip.Statement (.orcmb ac m) := fun _ =>
  decode_block 4 55 rfl (by decide) rfl ac m
theorem RoundTrip.orcb (ac : AcNum) (m : AddrPart) : RoundTrip.Statement (.orcb ac m) := fun _ =>
  decode_block 4 56 rfl (by decide) rfl ac m
theorem RoundTrip.orcbi (ac : AcNum) (m : AddrPart) : RoundTrip.Statement (.orcbi ac m) := fun _ =>
  decode_block 4 57 rfl (by decide) rfl ac m
theorem RoundTrip.orcbm (ac : AcNum) (m : AddrPart) : RoundTrip.Statement (.orcbm ac m) := fun _ =>
  decode_block 4 58 rfl (by decide) rfl ac m
theorem RoundTrip.orcbb (ac : AcNum) (m : AddrPart) : RoundTrip.Statement (.orcbb ac m) := fun _ =>
  decode_block 4 59 rfl (by decide) rfl ac m
theorem RoundTrip.seto (ac : AcNum) (m : AddrPart) : RoundTrip.Statement (.seto ac m) := fun _ =>
  decode_block 4 60 rfl (by decide) rfl ac m
theorem RoundTrip.setoi (ac : AcNum) (m : AddrPart) : RoundTrip.Statement (.setoi ac m) := fun _ =>
  decode_block 4 61 rfl (by decide) rfl ac m
theorem RoundTrip.setom (ac : AcNum) (m : AddrPart) : RoundTrip.Statement (.setom ac m) := fun _ =>
  decode_block 4 62 rfl (by decide) rfl ac m
theorem RoundTrip.setob (ac : AcNum) (m : AddrPart) : RoundTrip.Statement (.setob ac m) := fun _ =>
  decode_block 4 63 rfl (by decide) rfl ac m
theorem RoundTrip.ash (ac : AcNum) (m : AddrPart) : RoundTrip.Statement (.ash ac m) := fun _ =>
  decode_block 2 32 rfl (by decide) rfl ac m
theorem RoundTrip.rot (ac : AcNum) (m : AddrPart) : RoundTrip.Statement (.rot ac m) := fun _ =>
  decode_block 2 33 rfl (by decide) rfl ac m
theorem RoundTrip.lsh (ac : AcNum) (m : AddrPart) : RoundTrip.Statement (.lsh ac m) := fun _ =>
  decode_block 2 34 rfl (by decide) rfl ac m
theorem RoundTrip.ashc (ac : AcNum) (m : AddrPart) : RoundTrip.Statement (.ashc ac m) := fun _ =>
  decode_block 2 36 rfl (by decide) rfl ac m
theorem RoundTrip.rotc (ac : AcNum) (m : AddrPart) : RoundTrip.Statement (.rotc ac m) := fun _ =>
  decode_block 2 37 rfl (by decide) rfl ac m
theorem RoundTrip.lshc (ac : AcNum) (m : AddrPart) : RoundTrip.Statement (.lshc ac m) := fun _ =>
  decode_block 2 38 rfl (by decide) rfl ac m
theorem RoundTrip.cai (ac : AcNum) (m : AddrPart) : RoundTrip.Statement (.cai ac m) := fun _ =>
  decode_block 3 0 rfl (by decide) rfl ac m
theorem RoundTrip.cail (ac : AcNum) (m : AddrPart) : RoundTrip.Statement (.cail ac m) := fun _ =>
  decode_block 3 1 rfl (by decide) rfl ac m
theorem RoundTrip.caie (ac : AcNum) (m : AddrPart) : RoundTrip.Statement (.caie ac m) := fun _ =>
  decode_block 3 2 rfl (by decide) rfl ac m
theorem RoundTrip.caile (ac : AcNum) (m : AddrPart) : RoundTrip.Statement (.caile ac m) := fun _ =>
  decode_block 3 3 rfl (by decide) rfl ac m
theorem RoundTrip.caia (ac : AcNum) (m : AddrPart) : RoundTrip.Statement (.caia ac m) := fun _ =>
  decode_block 3 4 rfl (by decide) rfl ac m
theorem RoundTrip.caige (ac : AcNum) (m : AddrPart) : RoundTrip.Statement (.caige ac m) := fun _ =>
  decode_block 3 5 rfl (by decide) rfl ac m
theorem RoundTrip.cain (ac : AcNum) (m : AddrPart) : RoundTrip.Statement (.cain ac m) := fun _ =>
  decode_block 3 6 rfl (by decide) rfl ac m
theorem RoundTrip.caig (ac : AcNum) (m : AddrPart) : RoundTrip.Statement (.caig ac m) := fun _ =>
  decode_block 3 7 rfl (by decide) rfl ac m
theorem RoundTrip.cam (ac : AcNum) (m : AddrPart) : RoundTrip.Statement (.cam ac m) := fun _ =>
  decode_block 3 8 rfl (by decide) rfl ac m
theorem RoundTrip.caml (ac : AcNum) (m : AddrPart) : RoundTrip.Statement (.caml ac m) := fun _ =>
  decode_block 3 9 rfl (by decide) rfl ac m
theorem RoundTrip.came (ac : AcNum) (m : AddrPart) : RoundTrip.Statement (.came ac m) := fun _ =>
  decode_block 3 10 rfl (by decide) rfl ac m
theorem RoundTrip.camle (ac : AcNum) (m : AddrPart) : RoundTrip.Statement (.camle ac m) := fun _ =>
  decode_block 3 11 rfl (by decide) rfl ac m
theorem RoundTrip.cama (ac : AcNum) (m : AddrPart) : RoundTrip.Statement (.cama ac m) := fun _ =>
  decode_block 3 12 rfl (by decide) rfl ac m
theorem RoundTrip.camge (ac : AcNum) (m : AddrPart) : RoundTrip.Statement (.camge ac m) := fun _ =>
  decode_block 3 13 rfl (by decide) rfl ac m
theorem RoundTrip.camn (ac : AcNum) (m : AddrPart) : RoundTrip.Statement (.camn ac m) := fun _ =>
  decode_block 3 14 rfl (by decide) rfl ac m
theorem RoundTrip.camg (ac : AcNum) (m : AddrPart) : RoundTrip.Statement (.camg ac m) := fun _ =>
  decode_block 3 15 rfl (by decide) rfl ac m
theorem RoundTrip.jump (ac : AcNum) (m : AddrPart) : RoundTrip.Statement (.jump ac m) := fun _ =>
  decode_block 3 16 rfl (by decide) rfl ac m
theorem RoundTrip.jumpl (ac : AcNum) (m : AddrPart) : RoundTrip.Statement (.jumpl ac m) := fun _ =>
  decode_block 3 17 rfl (by decide) rfl ac m
theorem RoundTrip.jumpe (ac : AcNum) (m : AddrPart) : RoundTrip.Statement (.jumpe ac m) := fun _ =>
  decode_block 3 18 rfl (by decide) rfl ac m
theorem RoundTrip.jumple (ac : AcNum) (m : AddrPart) : RoundTrip.Statement (.jumple ac m) := fun _ =>
  decode_block 3 19 rfl (by decide) rfl ac m
theorem RoundTrip.jumpa (ac : AcNum) (m : AddrPart) : RoundTrip.Statement (.jumpa ac m) := fun _ =>
  decode_block 3 20 rfl (by decide) rfl ac m
theorem RoundTrip.jumpge (ac : AcNum) (m : AddrPart) : RoundTrip.Statement (.jumpge ac m) := fun _ =>
  decode_block 3 21 rfl (by decide) rfl ac m
theorem RoundTrip.jumpn (ac : AcNum) (m : AddrPart) : RoundTrip.Statement (.jumpn ac m) := fun _ =>
  decode_block 3 22 rfl (by decide) rfl ac m
theorem RoundTrip.jumpg (ac : AcNum) (m : AddrPart) : RoundTrip.Statement (.jumpg ac m) := fun _ =>
  decode_block 3 23 rfl (by decide) rfl ac m
theorem RoundTrip.skip (ac : AcNum) (m : AddrPart) : RoundTrip.Statement (.skip ac m) := fun _ =>
  decode_block 3 24 rfl (by decide) rfl ac m
theorem RoundTrip.skipl (ac : AcNum) (m : AddrPart) : RoundTrip.Statement (.skipl ac m) := fun _ =>
  decode_block 3 25 rfl (by decide) rfl ac m
theorem RoundTrip.skipe (ac : AcNum) (m : AddrPart) : RoundTrip.Statement (.skipe ac m) := fun _ =>
  decode_block 3 26 rfl (by decide) rfl ac m
theorem RoundTrip.skiple (ac : AcNum) (m : AddrPart) : RoundTrip.Statement (.skiple ac m) := fun _ =>
  decode_block 3 27 rfl (by decide) rfl ac m
theorem RoundTrip.skipa (ac : AcNum) (m : AddrPart) : RoundTrip.Statement (.skipa ac m) := fun _ =>
  decode_block 3 28 rfl (by decide) rfl ac m
theorem RoundTrip.skipge (ac : AcNum) (m : AddrPart) : RoundTrip.Statement (.skipge ac m) := fun _ =>
  decode_block 3 29 rfl (by decide) rfl ac m
theorem RoundTrip.skipn (ac : AcNum) (m : AddrPart) : RoundTrip.Statement (.skipn ac m) := fun _ =>
  decode_block 3 30 rfl (by decide) rfl ac m
theorem RoundTrip.skipg (ac : AcNum) (m : AddrPart) : RoundTrip.Statement (.skipg ac m) := fun _ =>
  decode_block 3 31 rfl (by decide) rfl ac m
theorem RoundTrip.aoj (ac : AcNum) (m : AddrPart) : RoundTrip.Statement (.aoj ac m) := fun _ =>
  decode_block 3 32 rfl (by decide) rfl ac m
theorem RoundTrip.aojl (ac : AcNum) (m : AddrPart) : RoundTrip.Statement (.aojl ac m) := fun _ =>
  decode_block 3 33 rfl (by decide) rfl ac m
theorem RoundTrip.aoje (ac : AcNum) (m : AddrPart) : RoundTrip.Statement (.aoje ac m) := fun _ =>
  decode_block 3 34 rfl (by decide) rfl ac m
theorem RoundTrip.aojle (ac : AcNum) (m : AddrPart) : RoundTrip.Statement (.aojle ac m) := fun _ =>
  decode_block 3 35 rfl (by decide) rfl ac m
theorem RoundTrip.aoja (ac : AcNum) (m : AddrPart) : RoundTrip.Statement (.aoja ac m) := fun _ =>
  decode_block 3 36 rfl (by decide) rfl ac m
theorem RoundTrip.aojge (ac : AcNum) (m : AddrPart) : RoundTrip.Statement (.aojge ac m) := fun _ =>
  decode_block 3 37 rfl (by decide) rfl ac m
theorem RoundTrip.aojn (ac : AcNum) (m : AddrPart) : RoundTrip.Statement (.aojn ac m) := fun _ =>
  decode_block 3 38 rfl (by decide) rfl ac m
theorem RoundTrip.aojg (ac : AcNum) (m : AddrPart) : RoundTrip.Statement (.aojg ac m) := fun _ =>
  decode_block 3 39 rfl (by decide) rfl ac m
theorem RoundTrip.aos (ac : AcNum) (m : AddrPart) : RoundTrip.Statement (.aos ac m) := fun _ =>
  decode_block 3 40 rfl (by decide) rfl ac m
theorem RoundTrip.aosl (ac : AcNum) (m : AddrPart) : RoundTrip.Statement (.aosl ac m) := fun _ =>
  decode_block 3 41 rfl (by decide) rfl ac m
theorem RoundTrip.aose (ac : AcNum) (m : AddrPart) : RoundTrip.Statement (.aose ac m) := fun _ =>
  decode_block 3 42 rfl (by decide) rfl ac m
theorem RoundTrip.aosle (ac : AcNum) (m : AddrPart) : RoundTrip.Statement (.aosle ac m) := fun _ =>
  decode_block 3 43 rfl (by decide) rfl ac m
theorem RoundTrip.aosa (ac : AcNum) (m : AddrPart) : RoundTrip.Statement (.aosa ac m) := fun _ =>
  decode_block 3 44 rfl (by decide) rfl ac m
theorem RoundTrip.aosge (ac : AcNum) (m : AddrPart) : RoundTrip.Statement (.aosge ac m) := fun _ =>
  decode_block 3 45 rfl (by decide) rfl ac m
theorem RoundTrip.aosn (ac : AcNum) (m : AddrPart) : RoundTrip.Statement (.aosn ac m) := fun _ =>
  decode_block 3 46 rfl (by decide) rfl ac m
theorem RoundTrip.aosg (ac : AcNum) (m : AddrPart) : RoundTrip.Statement (.aosg ac m) := fun _ =>
  decode_block 3 47 rfl (by decide) rfl ac m
theorem RoundTrip.soj (ac : AcNum) (m : AddrPart) : RoundTrip.Statement (.soj ac m) := fun _ =>
  decode_block 3 48 rfl (by decide) rfl ac m
theorem RoundTrip.sojl (ac : AcNum) (m : AddrPart) : RoundTrip.Statement (.sojl ac m) := fun _ =>
  decode_block 3 49 rfl (by decide) rfl ac m
theorem RoundTrip.soje (ac : AcNum) (m : AddrPart) : RoundTrip.Statement (.soje ac m) := fun _ =>
  decode_block 3 50 rfl (by decide) rfl ac m
theorem RoundTrip.sojle (ac : AcNum) (m : AddrPart) : RoundTrip.Statement (.sojle ac m) := fun _ =>
  decode_block 3 51 rfl (by decide) rfl ac m
theorem RoundTrip.soja (ac : AcNum) (m : AddrPart) : RoundTrip.Statement (.soja ac m) := fun _ =>
  decode_block 3 52 rfl (by decide) rfl ac m
theorem RoundTrip.sojge (ac : AcNum) (m : AddrPart) : RoundTrip.Statement (.sojge ac m) := fun _ =>
  decode_block 3 53 rfl (by decide) rfl ac m
theorem RoundTrip.sojn (ac : AcNum) (m : AddrPart) : RoundTrip.Statement (.sojn ac m) := fun _ =>
  decode_block 3 54 rfl (by decide) rfl ac m
theorem RoundTrip.sojg (ac : AcNum) (m : AddrPart) : RoundTrip.Statement (.sojg ac m) := fun _ =>
  decode_block 3 55 rfl (by decide) rfl ac m
theorem RoundTrip.sos (ac : AcNum) (m : AddrPart) : RoundTrip.Statement (.sos ac m) := fun _ =>
  decode_block 3 56 rfl (by decide) rfl ac m
theorem RoundTrip.sosl (ac : AcNum) (m : AddrPart) : RoundTrip.Statement (.sosl ac m) := fun _ =>
  decode_block 3 57 rfl (by decide) rfl ac m
theorem RoundTrip.sose (ac : AcNum) (m : AddrPart) : RoundTrip.Statement (.sose ac m) := fun _ =>
  decode_block 3 58 rfl (by decide) rfl ac m
theorem RoundTrip.sosle (ac : AcNum) (m : AddrPart) : RoundTrip.Statement (.sosle ac m) := fun _ =>
  decode_block 3 59 rfl (by decide) rfl ac m
theorem RoundTrip.sosa (ac : AcNum) (m : AddrPart) : RoundTrip.Statement (.sosa ac m) := fun _ =>
  decode_block 3 60 rfl (by decide) rfl ac m
theorem RoundTrip.sosge (ac : AcNum) (m : AddrPart) : RoundTrip.Statement (.sosge ac m) := fun _ =>
  decode_block 3 61 rfl (by decide) rfl ac m
theorem RoundTrip.sosn (ac : AcNum) (m : AddrPart) : RoundTrip.Statement (.sosn ac m) := fun _ =>
  decode_block 3 62 rfl (by decide) rfl ac m
theorem RoundTrip.sosg (ac : AcNum) (m : AddrPart) : RoundTrip.Statement (.sosg ac m) := fun _ =>
  decode_block 3 63 rfl (by decide) rfl ac m
theorem RoundTrip.aobjp (ac : AcNum) (m : AddrPart) : RoundTrip.Statement (.aobjp ac m) := fun _ =>
  decode_block 2 42 rfl (by decide) rfl ac m
theorem RoundTrip.aobjn (ac : AcNum) (m : AddrPart) : RoundTrip.Statement (.aobjn ac m) := fun _ =>
  decode_block 2 43 rfl (by decide) rfl ac m
theorem RoundTrip.jffo (ac : AcNum) (m : AddrPart) : RoundTrip.Statement (.jffo ac m) := fun _ =>
  decode_block 2 35 rfl (by decide) rfl ac m
theorem RoundTrip.hll (ac : AcNum) (m : AddrPart) : RoundTrip.Statement (.hll ac m) := fun _ =>
  decode_block 5 0 rfl (by decide) rfl ac m
theorem RoundTrip.hlli (ac : AcNum) (m : AddrPart) : RoundTrip.Statement (.hlli ac m) := fun _ =>
  decode_block 5 1 rfl (by decide) rfl ac m
theorem RoundTrip.hllm (ac : AcNum) (m : AddrPart) : RoundTrip.Statement (.hllm ac m) := fun _ =>
  decode_block 5 2 rfl (by decide) rfl ac m
theorem RoundTrip.hlls (ac : AcNum) (m : AddrPart) : RoundTrip.Statement (.hlls ac m) := fun _ =>
  decode_block 5 3 rfl (by decide) rfl ac m
theorem RoundTrip.hrl (ac : AcNum) (m : AddrPart) : RoundTrip.Statement (.hrl ac m) := fun _ =>
  decode_block 5 4 rfl (by decide) rfl ac m
theorem RoundTrip.hrli (ac : AcNum) (m : AddrPart) : RoundTrip.Statement (.hrli ac m) := fun _ =>
  decode_block 5 5 rfl (by decide) rfl ac m
theorem RoundTrip.hrlm (ac : AcNum) (m : AddrPart) : RoundTrip.Statement (.hrlm ac m) := fun _ =>
  decode_block 5 6 rfl (by decide) rfl ac m
theorem RoundTrip.hrls (ac : AcNum) (m : AddrPart) : RoundTrip.Statement (.hrls ac m) := fun _ =>
  decode_block 5 7 rfl (by decide) rfl ac m
theorem RoundTrip.hllz (ac : AcNum) (m : AddrPart) : RoundTrip.Statement (.hllz ac m) := fun _ =>
  decode_block 5 8 rfl (by decide) rfl ac m
theorem RoundTrip.hllzi (ac : AcNum) (m : AddrPart) : RoundTrip.Statement (.hllzi ac m) := fun _ =>
  decode_block 5 9 rfl (by decide) rfl ac m
theorem RoundTrip.hllzm (ac : AcNum) (m : AddrPart) : RoundTrip.Statement (.hllzm ac m) := fun _ =>
  decode_block 5 10 rfl (by decide) rfl ac m
theorem RoundTrip.hllzs (ac : AcNum) (m : AddrPart) : RoundTrip.Statement (.hllzs ac m) := fun _ =>
  decode_block 5 11 rfl (by decide) rfl ac m
theorem RoundTrip.hrlz (ac : AcNum) (m : AddrPart) : RoundTrip.Statement (.hrlz ac m) := fun _ =>
  decode_block 5 12 rfl (by decide) rfl ac m
theorem RoundTrip.hrlzi (ac : AcNum) (m : AddrPart) : RoundTrip.Statement (.hrlzi ac m) := fun _ =>
  decode_block 5 13 rfl (by decide) rfl ac m
theorem RoundTrip.hrlzm (ac : AcNum) (m : AddrPart) : RoundTrip.Statement (.hrlzm ac m) := fun _ =>
  decode_block 5 14 rfl (by decide) rfl ac m
theorem RoundTrip.hrlzs (ac : AcNum) (m : AddrPart) : RoundTrip.Statement (.hrlzs ac m) := fun _ =>
  decode_block 5 15 rfl (by decide) rfl ac m
theorem RoundTrip.hllo (ac : AcNum) (m : AddrPart) : RoundTrip.Statement (.hllo ac m) := fun _ =>
  decode_block 5 16 rfl (by decide) rfl ac m
theorem RoundTrip.hlloi (ac : AcNum) (m : AddrPart) : RoundTrip.Statement (.hlloi ac m) := fun _ =>
  decode_block 5 17 rfl (by decide) rfl ac m
theorem RoundTrip.hllom (ac : AcNum) (m : AddrPart) : RoundTrip.Statement (.hllom ac m) := fun _ =>
  decode_block 5 18 rfl (by decide) rfl ac m
theorem RoundTrip.hllos (ac : AcNum) (m : AddrPart) : RoundTrip.Statement (.hllos ac m) := fun _ =>
  decode_block 5 19 rfl (by decide) rfl ac m
theorem RoundTrip.hrlo (ac : AcNum) (m : AddrPart) : RoundTrip.Statement (.hrlo ac m) := fun _ =>
  decode_block 5 20 rfl (by decide) rfl ac m
theorem RoundTrip.hrloi (ac : AcNum) (m : AddrPart) : RoundTrip.Statement (.hrloi ac m) := fun _ =>
  decode_block 5 21 rfl (by decide) rfl ac m
theorem RoundTrip.hrlom (ac : AcNum) (m : AddrPart) : RoundTrip.Statement (.hrlom ac m) := fun _ =>
  decode_block 5 22 rfl (by decide) rfl ac m
theorem RoundTrip.hrlos (ac : AcNum) (m : AddrPart) : RoundTrip.Statement (.hrlos ac m) := fun _ =>
  decode_block 5 23 rfl (by decide) rfl ac m
theorem RoundTrip.hlle (ac : AcNum) (m : AddrPart) : RoundTrip.Statement (.hlle ac m) := fun _ =>
  decode_block 5 24 rfl (by decide) rfl ac m
theorem RoundTrip.hllei (ac : AcNum) (m : AddrPart) : RoundTrip.Statement (.hllei ac m) := fun _ =>
  decode_block 5 25 rfl (by decide) rfl ac m
theorem RoundTrip.hllem (ac : AcNum) (m : AddrPart) : RoundTrip.Statement (.hllem ac m) := fun _ =>
  decode_block 5 26 rfl (by decide) rfl ac m
theorem RoundTrip.hlles (ac : AcNum) (m : AddrPart) : RoundTrip.Statement (.hlles ac m) := fun _ =>
  decode_block 5 27 rfl (by decide) rfl ac m
theorem RoundTrip.hrle (ac : AcNum) (m : AddrPart) : RoundTrip.Statement (.hrle ac m) := fun _ =>
  decode_block 5 28 rfl (by decide) rfl ac m
theorem RoundTrip.hrlei (ac : AcNum) (m : AddrPart) : RoundTrip.Statement (.hrlei ac m) := fun _ =>
  decode_block 5 29 rfl (by decide) rfl ac m
theorem RoundTrip.hrlem (ac : AcNum) (m : AddrPart) : RoundTrip.Statement (.hrlem ac m) := fun _ =>
  decode_block 5 30 rfl (by decide) rfl ac m
theorem RoundTrip.hrles (ac : AcNum) (m : AddrPart) : RoundTrip.Statement (.hrles ac m) := fun _ =>
  decode_block 5 31 rfl (by decide) rfl ac m
theorem RoundTrip.hrr (ac : AcNum) (m : AddrPart) : RoundTrip.Statement (.hrr ac m) := fun _ =>
  decode_block 5 32 rfl (by decide) rfl ac m
theorem RoundTrip.hrri (ac : AcNum) (m : AddrPart) : RoundTrip.Statement (.hrri ac m) := fun _ =>
  decode_block 5 33 rfl (by decide) rfl ac m
theorem RoundTrip.hrrm (ac : AcNum) (m : AddrPart) : RoundTrip.Statement (.hrrm ac m) := fun _ =>
  decode_block 5 34 rfl (by decide) rfl ac m
theorem RoundTrip.hrrs (ac : AcNum) (m : AddrPart) : RoundTrip.Statement (.hrrs ac m) := fun _ =>
  decode_block 5 35 rfl (by decide) rfl ac m
theorem RoundTrip.hlr (ac : AcNum) (m : AddrPart) : RoundTrip.Statement (.hlr ac m) := fun _ =>
  decode_block 5 36 rfl (by decide) rfl ac m
theorem RoundTrip.hlri (ac : AcNum) (m : AddrPart) : RoundTrip.Statement (.hlri ac m) := fun _ =>
  decode_block 5 37 rfl (by decide) rfl ac m
theorem RoundTrip.hlrm (ac : AcNum) (m : AddrPart) : RoundTrip.Statement (.hlrm ac m) := fun _ =>
  decode_block 5 38 rfl (by decide) rfl ac m
theorem RoundTrip.hlrs (ac : AcNum) (m : AddrPart) : RoundTrip.Statement (.hlrs ac m) := fun _ =>
  decode_block 5 39 rfl (by decide) rfl ac m
theorem RoundTrip.hrrz (ac : AcNum) (m : AddrPart) : RoundTrip.Statement (.hrrz ac m) := fun _ =>
  decode_block 5 40 rfl (by decide) rfl ac m
theorem RoundTrip.hrrzi (ac : AcNum) (m : AddrPart) : RoundTrip.Statement (.hrrzi ac m) := fun _ =>
  decode_block 5 41 rfl (by decide) rfl ac m
theorem RoundTrip.hrrzm (ac : AcNum) (m : AddrPart) : RoundTrip.Statement (.hrrzm ac m) := fun _ =>
  decode_block 5 42 rfl (by decide) rfl ac m
theorem RoundTrip.hrrzs (ac : AcNum) (m : AddrPart) : RoundTrip.Statement (.hrrzs ac m) := fun _ =>
  decode_block 5 43 rfl (by decide) rfl ac m
theorem RoundTrip.hlrz (ac : AcNum) (m : AddrPart) : RoundTrip.Statement (.hlrz ac m) := fun _ =>
  decode_block 5 44 rfl (by decide) rfl ac m
theorem RoundTrip.hlrzi (ac : AcNum) (m : AddrPart) : RoundTrip.Statement (.hlrzi ac m) := fun _ =>
  decode_block 5 45 rfl (by decide) rfl ac m
theorem RoundTrip.hlrzm (ac : AcNum) (m : AddrPart) : RoundTrip.Statement (.hlrzm ac m) := fun _ =>
  decode_block 5 46 rfl (by decide) rfl ac m
theorem RoundTrip.hlrzs (ac : AcNum) (m : AddrPart) : RoundTrip.Statement (.hlrzs ac m) := fun _ =>
  decode_block 5 47 rfl (by decide) rfl ac m
theorem RoundTrip.hrro (ac : AcNum) (m : AddrPart) : RoundTrip.Statement (.hrro ac m) := fun _ =>
  decode_block 5 48 rfl (by decide) rfl ac m
theorem RoundTrip.hrroi (ac : AcNum) (m : AddrPart) : RoundTrip.Statement (.hrroi ac m) := fun _ =>
  decode_block 5 49 rfl (by decide) rfl ac m
theorem RoundTrip.hrrom (ac : AcNum) (m : AddrPart) : RoundTrip.Statement (.hrrom ac m) := fun _ =>
  decode_block 5 50 rfl (by decide) rfl ac m
theorem RoundTrip.hrros (ac : AcNum) (m : AddrPart) : RoundTrip.Statement (.hrros ac m) := fun _ =>
  decode_block 5 51 rfl (by decide) rfl ac m
theorem RoundTrip.hlro (ac : AcNum) (m : AddrPart) : RoundTrip.Statement (.hlro ac m) := fun _ =>
  decode_block 5 52 rfl (by decide) rfl ac m
theorem RoundTrip.hlroi (ac : AcNum) (m : AddrPart) : RoundTrip.Statement (.hlroi ac m) := fun _ =>
  decode_block 5 53 rfl (by decide) rfl ac m
theorem RoundTrip.hlrom (ac : AcNum) (m : AddrPart) : RoundTrip.Statement (.hlrom ac m) := fun _ =>
  decode_block 5 54 rfl (by decide) rfl ac m
theorem RoundTrip.hlros (ac : AcNum) (m : AddrPart) : RoundTrip.Statement (.hlros ac m) := fun _ =>
  decode_block 5 55 rfl (by decide) rfl ac m
theorem RoundTrip.hrre (ac : AcNum) (m : AddrPart) : RoundTrip.Statement (.hrre ac m) := fun _ =>
  decode_block 5 56 rfl (by decide) rfl ac m
theorem RoundTrip.hrrei (ac : AcNum) (m : AddrPart) : RoundTrip.Statement (.hrrei ac m) := fun _ =>
  decode_block 5 57 rfl (by decide) rfl ac m
theorem RoundTrip.hrrem (ac : AcNum) (m : AddrPart) : RoundTrip.Statement (.hrrem ac m) := fun _ =>
  decode_block 5 58 rfl (by decide) rfl ac m
theorem RoundTrip.hrres (ac : AcNum) (m : AddrPart) : RoundTrip.Statement (.hrres ac m) := fun _ =>
  decode_block 5 59 rfl (by decide) rfl ac m
theorem RoundTrip.hlre (ac : AcNum) (m : AddrPart) : RoundTrip.Statement (.hlre ac m) := fun _ =>
  decode_block 5 60 rfl (by decide) rfl ac m
theorem RoundTrip.hlrei (ac : AcNum) (m : AddrPart) : RoundTrip.Statement (.hlrei ac m) := fun _ =>
  decode_block 5 61 rfl (by decide) rfl ac m
theorem RoundTrip.hlrem (ac : AcNum) (m : AddrPart) : RoundTrip.Statement (.hlrem ac m) := fun _ =>
  decode_block 5 62 rfl (by decide) rfl ac m
theorem RoundTrip.hlres (ac : AcNum) (m : AddrPart) : RoundTrip.Statement (.hlres ac m) := fun _ =>
  decode_block 5 63 rfl (by decide) rfl ac m
theorem RoundTrip.trn (ac : AcNum) (m : AddrPart) : RoundTrip.Statement (.trn ac m) := fun _ =>
  decode_block 6 0 rfl (by decide) rfl ac m
theorem RoundTrip.tln (ac : AcNum) (m : AddrPart) : RoundTrip.Statement (.tln ac m) := fun _ =>
  decode_block 6 1 rfl (by decide) rfl ac m
theorem RoundTrip.trne (ac : AcNum) (m : AddrPart) : RoundTrip.Statement (.trne ac m) := fun _ =>
  decode_block 6 2 rfl (by decide) rfl ac m
theorem RoundTrip.tlne (ac : AcNum) (m : AddrPart) : RoundTrip.Statement (.tlne ac m) := fun _ =>
  decode_block 6 3 rfl (by decide) rfl ac m
theorem RoundTrip.trna (ac : AcNum) (m : AddrPart) : RoundTrip.Statement (.trna ac m) := fun _ =>
  decode_block 6 4 rfl (by decide) rfl ac m
theorem RoundTrip.tlna (ac : AcNum) (m : AddrPart) : RoundTrip.Statement (.tlna ac m) := fun _ =>
  decode_block 6 5 rfl (by decide) rfl ac m
theorem RoundTrip.trnn (ac : AcNum) (m : AddrPart) : RoundTrip.Statement (.trnn ac m) := fun _ =>
  decode_block 6 6 rfl (by decide) rfl ac m
theorem RoundTrip.tlnn (ac : AcNum) (m : AddrPart) : RoundTrip.Statement (.tlnn ac m) := fun _ =>
  decode_block 6 7 rfl (by decide) rfl ac m
theorem RoundTrip.tdn (ac : AcNum) (m : AddrPart) : RoundTrip.Statement (.tdn ac m) := fun _ =>
  decode_block 6 8 rfl (by decide) rfl ac m
theorem RoundTrip.tsn (ac : AcNum) (m : AddrPart) : RoundTrip.Statement (.tsn ac m) := fun _ =>
  decode_block 6 9 rfl (by decide) rfl ac m
theorem RoundTrip.tdne (ac : AcNum) (m : AddrPart) : RoundTrip.Statement (.tdne ac m) := fun _ =>
  decode_block 6 10 rfl (by decide) rfl ac m
theorem RoundTrip.tsne (ac : AcNum) (m : AddrPart) : RoundTrip.Statement (.tsne ac m) := fun _ =>
  decode_block 6 11 rfl (by decide) rfl ac m
theorem RoundTrip.tdna (ac : AcNum) (m : AddrPart) : RoundTrip.Statement (.tdna ac m) := fun _ =>
  decode_block 6 12 rfl (by decide) rfl ac m
theorem RoundTrip.tsna (ac : AcNum) (m : AddrPart) : RoundTrip.Statement (.tsna ac m) := fun _ =>
  decode_block 6 13 rfl (by decide) rfl ac m
theorem RoundTrip.tdnn (ac : AcNum) (m : AddrPart) : RoundTrip.Statement (.tdnn ac m) := fun _ =>
  decode_block 6 14 rfl (by decide) rfl ac m
theorem RoundTrip.tsnn (ac : AcNum) (m : AddrPart) : RoundTrip.Statement (.tsnn ac m) := fun _ =>
  decode_block 6 15 rfl (by decide) rfl ac m
theorem RoundTrip.trz (ac : AcNum) (m : AddrPart) : RoundTrip.Statement (.trz ac m) := fun _ =>
  decode_block 6 16 rfl (by decide) rfl ac m
theorem RoundTrip.tlz (ac : AcNum) (m : AddrPart) : RoundTrip.Statement (.tlz ac m) := fun _ =>
  decode_block 6 17 rfl (by decide) rfl ac m
theorem RoundTrip.trze (ac : AcNum) (m : AddrPart) : RoundTrip.Statement (.trze ac m) := fun _ =>
  decode_block 6 18 rfl (by decide) rfl ac m
theorem RoundTrip.tlze (ac : AcNum) (m : AddrPart) : RoundTrip.Statement (.tlze ac m) := fun _ =>
  decode_block 6 19 rfl (by decide) rfl ac m
theorem RoundTrip.trza (ac : AcNum) (m : AddrPart) : RoundTrip.Statement (.trza ac m) := fun _ =>
  decode_block 6 20 rfl (by decide) rfl ac m
theorem RoundTrip.tlza (ac : AcNum) (m : AddrPart) : RoundTrip.Statement (.tlza ac m) := fun _ =>
  decode_block 6 21 rfl (by decide) rfl ac m
theorem RoundTrip.trzn (ac : AcNum) (m : AddrPart) : RoundTrip.Statement (.trzn ac m) := fun _ =>
  decode_block 6 22 rfl (by decide) rfl ac m
theorem RoundTrip.tlzn (ac : AcNum) (m : AddrPart) : RoundTrip.Statement (.tlzn ac m) := fun _ =>
  decode_block 6 23 rfl (by decide) rfl ac m
theorem RoundTrip.tdz (ac : AcNum) (m : AddrPart) : RoundTrip.Statement (.tdz ac m) := fun _ =>
  decode_block 6 24 rfl (by decide) rfl ac m
theorem RoundTrip.tsz (ac : AcNum) (m : AddrPart) : RoundTrip.Statement (.tsz ac m) := fun _ =>
  decode_block 6 25 rfl (by decide) rfl ac m
theorem RoundTrip.tdze (ac : AcNum) (m : AddrPart) : RoundTrip.Statement (.tdze ac m) := fun _ =>
  decode_block 6 26 rfl (by decide) rfl ac m
theorem RoundTrip.tsze (ac : AcNum) (m : AddrPart) : RoundTrip.Statement (.tsze ac m) := fun _ =>
  decode_block 6 27 rfl (by decide) rfl ac m
theorem RoundTrip.tdza (ac : AcNum) (m : AddrPart) : RoundTrip.Statement (.tdza ac m) := fun _ =>
  decode_block 6 28 rfl (by decide) rfl ac m
theorem RoundTrip.tsza (ac : AcNum) (m : AddrPart) : RoundTrip.Statement (.tsza ac m) := fun _ =>
  decode_block 6 29 rfl (by decide) rfl ac m
theorem RoundTrip.tdzn (ac : AcNum) (m : AddrPart) : RoundTrip.Statement (.tdzn ac m) := fun _ =>
  decode_block 6 30 rfl (by decide) rfl ac m
theorem RoundTrip.tszn (ac : AcNum) (m : AddrPart) : RoundTrip.Statement (.tszn ac m) := fun _ =>
  decode_block 6 31 rfl (by decide) rfl ac m
theorem RoundTrip.trc (ac : AcNum) (m : AddrPart) : RoundTrip.Statement (.trc ac m) := fun _ =>
  decode_block 6 32 rfl (by decide) rfl ac m
theorem RoundTrip.tlc (ac : AcNum) (m : AddrPart) : RoundTrip.Statement (.tlc ac m) := fun _ =>
  decode_block 6 33 rfl (by decide) rfl ac m
theorem RoundTrip.trce (ac : AcNum) (m : AddrPart) : RoundTrip.Statement (.trce ac m) := fun _ =>
  decode_block 6 34 rfl (by decide) rfl ac m
theorem RoundTrip.tlce (ac : AcNum) (m : AddrPart) : RoundTrip.Statement (.tlce ac m) := fun _ =>
  decode_block 6 35 rfl (by decide) rfl ac m
theorem RoundTrip.trca (ac : AcNum) (m : AddrPart) : RoundTrip.Statement (.trca ac m) := fun _ =>
  decode_block 6 36 rfl (by decide) rfl ac m
theorem RoundTrip.tlca (ac : AcNum) (m : AddrPart) : RoundTrip.Statement (.tlca ac m) := fun _ =>
  decode_block 6 37 rfl (by decide) rfl ac m
theorem RoundTrip.trcn (ac : AcNum) (m : AddrPart) : RoundTrip.Statement (.trcn ac m) := fun _ =>
  decode_block 6 38 rfl (by decide) rfl ac m
theorem RoundTrip.tlcn (ac : AcNum) (m : AddrPart) : RoundTrip.Statement (.tlcn ac m) := fun _ =>
  decode_block 6 39 rfl (by decide) rfl ac m
theorem RoundTrip.tdc (ac : AcNum) (m : AddrPart) : RoundTrip.Statement (.tdc ac m) := fun _ =>
  decode_block 6 40 rfl (by decide) rfl ac m
theorem RoundTrip.tsc (ac : AcNum) (m : AddrPart) : RoundTrip.Statement (.tsc ac m) := fun _ =>
  decode_block 6 41 rfl (by decide) rfl ac m
theorem RoundTrip.tdce (ac : AcNum) (m : AddrPart) : RoundTrip.Statement (.tdce ac m) := fun _ =>
  decode_block 6 42 rfl (by decide) rfl ac m
theorem RoundTrip.tsce (ac : AcNum) (m : AddrPart) : RoundTrip.Statement (.tsce ac m) := fun _ =>
  decode_block 6 43 rfl (by decide) rfl ac m
theorem RoundTrip.tdca (ac : AcNum) (m : AddrPart) : RoundTrip.Statement (.tdca ac m) := fun _ =>
  decode_block 6 44 rfl (by decide) rfl ac m
theorem RoundTrip.tsca (ac : AcNum) (m : AddrPart) : RoundTrip.Statement (.tsca ac m) := fun _ =>
  decode_block 6 45 rfl (by decide) rfl ac m
theorem RoundTrip.tdcn (ac : AcNum) (m : AddrPart) : RoundTrip.Statement (.tdcn ac m) := fun _ =>
  decode_block 6 46 rfl (by decide) rfl ac m
theorem RoundTrip.tscn (ac : AcNum) (m : AddrPart) : RoundTrip.Statement (.tscn ac m) := fun _ =>
  decode_block 6 47 rfl (by decide) rfl ac m
theorem RoundTrip.tro (ac : AcNum) (m : AddrPart) : RoundTrip.Statement (.tro ac m) := fun _ =>
  decode_block 6 48 rfl (by decide) rfl ac m
theorem RoundTrip.tlo (ac : AcNum) (m : AddrPart) : RoundTrip.Statement (.tlo ac m) := fun _ =>
  decode_block 6 49 rfl (by decide) rfl ac m
theorem RoundTrip.troe (ac : AcNum) (m : AddrPart) : RoundTrip.Statement (.troe ac m) := fun _ =>
  decode_block 6 50 rfl (by decide) rfl ac m
theorem RoundTrip.tloe (ac : AcNum) (m : AddrPart) : RoundTrip.Statement (.tloe ac m) := fun _ =>
  decode_block 6 51 rfl (by decide) rfl ac m
theorem RoundTrip.troa (ac : AcNum) (m : AddrPart) : RoundTrip.Statement (.troa ac m) := fun _ =>
  decode_block 6 52 rfl (by decide) rfl ac m
theorem RoundTrip.tloa (ac : AcNum) (m : AddrPart) : RoundTrip.Statement (.tloa ac m) := fun _ =>
  decode_block 6 53 rfl (by decide) rfl ac m
theorem RoundTrip.tron (ac : AcNum) (m : AddrPart) : RoundTrip.Statement (.tron ac m) := fun _ =>
  decode_block 6 54 rfl (by decide) rfl ac m
theorem RoundTrip.tlon (ac : AcNum) (m : AddrPart) : RoundTrip.Statement (.tlon ac m) := fun _ =>
  decode_block 6 55 rfl (by decide) rfl ac m
theorem RoundTrip.tdo (ac : AcNum) (m : AddrPart) : RoundTrip.Statement (.tdo ac m) := fun _ =>
  decode_block 6 56 rfl (by decide) rfl ac m
theorem RoundTrip.tso (ac : AcNum) (m : AddrPart) : RoundTrip.Statement (.tso ac m) := fun _ =>
  decode_block 6 57 rfl (by decide) rfl ac m
theorem RoundTrip.tdoe (ac : AcNum) (m : AddrPart) : RoundTrip.Statement (.tdoe ac m) := fun _ =>
  decode_block 6 58 rfl (by decide) rfl ac m
theorem RoundTrip.tsoe (ac : AcNum) (m : AddrPart) : RoundTrip.Statement (.tsoe ac m) := fun _ =>
  decode_block 6 59 rfl (by decide) rfl ac m
theorem RoundTrip.tdoa (ac : AcNum) (m : AddrPart) : RoundTrip.Statement (.tdoa ac m) := fun _ =>
  decode_block 6 60 rfl (by decide) rfl ac m
theorem RoundTrip.tsoa (ac : AcNum) (m : AddrPart) : RoundTrip.Statement (.tsoa ac m) := fun _ =>
  decode_block 6 61 rfl (by decide) rfl ac m
theorem RoundTrip.tdon (ac : AcNum) (m : AddrPart) : RoundTrip.Statement (.tdon ac m) := fun _ =>
  decode_block 6 62 rfl (by decide) rfl ac m
theorem RoundTrip.tson (ac : AcNum) (m : AddrPart) : RoundTrip.Statement (.tson ac m) := fun _ =>
  decode_block 6 63 rfl (by decide) rfl ac m
theorem RoundTrip.jrst (m : AddrPart) : RoundTrip.Statement (.jrst m) := fun _ =>
  decode_block (f := decodeJrst) 2 44 rfl (by decide) rfl _ m
theorem RoundTrip.portal (m : AddrPart) : RoundTrip.Statement (.portal m) := fun _ =>
  decode_block (f := decodeJrst) 2 44 rfl (by decide) rfl _ m
theorem RoundTrip.jrstf (m : AddrPart) : RoundTrip.Statement (.jrstf m) := fun _ =>
  decode_block (f := decodeJrst) 2 44 rfl (by decide) rfl _ m
theorem RoundTrip.halt (m : AddrPart) : RoundTrip.Statement (.halt m) := fun _ =>
  decode_block (f := decodeJrst) 2 44 rfl (by decide) rfl _ m
theorem RoundTrip.jrst10 (m : AddrPart) : RoundTrip.Statement (.jrst10 m) := fun _ =>
  decode_block (f := decodeJrst) 2 44 rfl (by decide) rfl _ m
theorem RoundTrip.jen (m : AddrPart) : RoundTrip.Statement (.jen m) := fun _ =>
  decode_block (f := decodeJrst) 2 44 rfl (by decide) rfl _ m
theorem RoundTrip.jrstFn3 (m : AddrPart) : RoundTrip.Statement (.jrstFn3 m) := fun _ =>
  decode_block (f := decodeJrst) 2 44 rfl (by decide) rfl _ m
theorem RoundTrip.jrstFn5 (m : AddrPart) : RoundTrip.Statement (.jrstFn5 m) := fun _ =>
  decode_block (f := decodeJrst) 2 44 rfl (by decide) rfl _ m
theorem RoundTrip.jrstFn6 (m : AddrPart) : RoundTrip.Statement (.jrstFn6 m) := fun _ =>
  decode_block (f := decodeJrst) 2 44 rfl (by decide) rfl _ m
theorem RoundTrip.jrstFn7 (m : AddrPart) : RoundTrip.Statement (.jrstFn7 m) := fun _ =>
  decode_block (f := decodeJrst) 2 44 rfl (by decide) rfl _ m
theorem RoundTrip.jrstFn11 (m : AddrPart) : RoundTrip.Statement (.jrstFn11 m) := fun _ =>
  decode_block (f := decodeJrst) 2 44 rfl (by decide) rfl _ m
theorem RoundTrip.jrstFn13 (m : AddrPart) : RoundTrip.Statement (.jrstFn13 m) := fun _ =>
  decode_block (f := decodeJrst) 2 44 rfl (by decide) rfl _ m
theorem RoundTrip.jrstFn14 (m : AddrPart) : RoundTrip.Statement (.jrstFn14 m) := fun _ =>
  decode_block (f := decodeJrst) 2 44 rfl (by decide) rfl _ m
theorem RoundTrip.jrstFn15 (m : AddrPart) : RoundTrip.Statement (.jrstFn15 m) := fun _ =>
  decode_block (f := decodeJrst) 2 44 rfl (by decide) rfl _ m
theorem RoundTrip.jrstFn16 (m : AddrPart) : RoundTrip.Statement (.jrstFn16 m) := fun _ =>
  decode_block (f := decodeJrst) 2 44 rfl (by decide) rfl _ m
theorem RoundTrip.jrstFn17 (m : AddrPart) : RoundTrip.Statement (.jrstFn17 m) := fun _ =>
  decode_block (f := decodeJrst) 2 44 rfl (by decide) rfl _ m
theorem RoundTrip.jfcl (ac : AcNum) (m : AddrPart) : RoundTrip.Statement (.jfcl ac m) := fun _ =>
  decode_block 2 45 rfl (by decide) rfl ac m
theorem RoundTrip.xct (ac : AcNum) (m : AddrPart) : RoundTrip.Statement (.xct ac m) := fun _ =>
  decode_block 2 46 rfl (by decide) rfl ac m
theorem RoundTrip.jsr (ac : AcNum) (m : AddrPart) : RoundTrip.Statement (.jsr ac m) := fun _ =>
  decode_block 2 52 rfl (by decide) rfl ac m
theorem RoundTrip.jsp (ac : AcNum) (m : AddrPart) : RoundTrip.Statement (.jsp ac m) := fun _ =>
  decode_block 2 53 rfl (by decide) rfl ac m
theorem RoundTrip.jsa (ac : AcNum) (m : AddrPart) : RoundTrip.Statement (.jsa ac m) := fun _ =>
  decode_block 2 54 rfl (by decide) rfl ac m
theorem RoundTrip.jra (ac : AcNum) (m : AddrPart) : RoundTrip.Statement (.jra ac m) := fun _ =>
  decode_block 2 55 rfl (by decide) rfl ac m
theorem RoundTrip.pushj (ac : AcNum) (m : AddrPart) : RoundTrip.Statement (.pushj ac m) := fun _ =>
  decode_block 2 48 rfl (by decide) rfl ac m
theorem RoundTrip.popj (ac : AcNum) (m : AddrPart) : RoundTrip.Statement (.popj ac m) := fun _ =>
  decode_block 2 51 rfl (by decide) rfl ac m
theorem RoundTrip.push (ac : AcNum) (m : AddrPart) : RoundTrip.Statement (.push ac m) := fun _ =>
  decode_block 2 49 rfl (by decide) rfl ac m
theorem RoundTrip.pop (ac : AcNum) (m : AddrPart) : RoundTrip.Statement (.pop ac m) := fun _ =>
  decode_block 2 50 rfl (by decide) rfl ac m
theorem RoundTrip.adjsp (ac : AcNum) (m : AddrPart) : RoundTrip.Statement (.adjsp ac m) := fun _ =>
  decode_block 1 5 rfl (by decide) rfl ac m
theorem RoundTrip.ibp (m : AddrPart) : RoundTrip.Statement (.ibp m) := fun _ =>
  decode_block (f := decodeByteAdjust) 1 27 rfl (by decide) rfl _ m
theorem ne_of_wellFormed {ac : AcNum} {m : AddrPart} (h : Instr.wellFormed (.adjbp ac m) = true) : ac ≠ 0 := by
  simpa [Instr.wellFormed] using h

theorem RoundTrip.adjbp (ac : AcNum) (m : AddrPart) : RoundTrip.Statement (.adjbp ac m) := fun h =>
  (decode_block (f := decodeByteAdjust) 1 27 rfl (by decide) rfl ac m).trans (if_neg (ne_of_wellFormed h))
theorem RoundTrip.ildb (ac : AcNum) (m : AddrPart) : RoundTrip.Statement (.ildb ac m) := fun _ =>
  decode_block 1 28 rfl (by decide) rfl ac m
theorem RoundTrip.ldb (ac : AcNum) (m : AddrPart) : RoundTrip.Statement (.ldb ac m) := fun _ =>
  decode_block 1 29 rfl (by decide) rfl ac m
theorem RoundTrip.idpb (ac : AcNum) (m : AddrPart) : RoundTrip.Statement (.idpb ac m) := fun _ =>
  decode_block 1 30 rfl (by decide) rfl ac m
theorem RoundTrip.dpb (ac : AcNum) (m : AddrPart) : RoundTrip.Statement (.dpb ac m) := fun _ =>
  decode_block 1 31 rfl (by decide) rfl ac m
theorem RoundTrip.muuo (ac : AcNum) (m : AddrPart) : RoundTrip.Statement (.muuo ac m) := fun _ =>
  decode_block 0 0 rfl (by decide) rfl ac m
theorem RoundTrip.luuo001 (ac : AcNum) (m : AddrPart) : RoundTrip.Statement (.luuo001 ac m) := fun _ =>
  decode_block 0 1 rfl (by decide) rfl ac m
theorem RoundTrip.luuo002 (ac : AcNum) (m : AddrPart) : RoundTrip.Statement (.luuo002 ac m) := fun _ =>
  decode_block 0 2 rfl (by decide) rfl ac m
theorem RoundTrip.luuo003 (ac : AcNum) (m : AddrPart) : RoundTrip.Statement (.luuo003 ac m) := fun _ =>
  decode_block 0 3 rfl (by decide) rfl ac m
theorem RoundTrip.luuo004 (ac : AcNum) (m : AddrPart) : RoundTrip.Statement (.luuo004 ac m) := fun _ =>
  decode_block 0 4 rfl (by decide) rfl ac m
theorem RoundTrip.luuo005 (ac : AcNum) (m : AddrPart) : RoundTrip.Statement (.luuo005 ac m) := fun _ =>
  decode_block 0 5 rfl (by decide) rfl ac m
theorem RoundTrip.luuo006 (ac : AcNum) (m : AddrPart) : RoundTrip.Statement (.luuo006 ac m) := fun _ =>
  decode_block 0 6 rfl (by decide) rfl ac m
theorem RoundTrip.luuo007 (ac : AcNum) (m : AddrPart) : RoundTrip.Statement (.luuo007 ac m) := fun _ =>
  decode_block 0 7 rfl (by decide) rfl ac m
theorem RoundTrip.luuo010 (ac : AcNum) (m : AddrPart) : RoundTrip.Statement (.luuo010 ac m) := fun _ =>
  decode_block 0 8 rfl (by decide) rfl ac m
theorem RoundTrip.luuo011 (ac : AcNum) (m : AddrPart) : RoundTrip.Statement (.luuo011 ac m) := fun _ =>
  decode_block 0 9 rfl (by decide) rfl ac m
theorem RoundTrip.luuo012 (ac : AcNum) (m : AddrPart) : RoundTrip.Statement (.luuo012 ac m) := fun _ =>
  decode_block 0 10 rfl (by decide) rfl ac m
theorem RoundTrip.luuo013 (ac : AcNum) (m : AddrPart) : RoundTrip.Statement (.luuo013 ac m) := fun _ =>
  decode_block 0 11 rfl (by decide) rfl ac m
theorem RoundTrip.luuo014 (ac : AcNum) (m : AddrPart) : RoundTrip.Statement (.luuo014 ac m) := fun _ =>
  decode_block 0 12 rfl (by decide) rfl ac m
theorem RoundTrip.luuo015 (ac : AcNum) (m : AddrPart) : RoundTrip.Statement (.luuo015 ac m) := fun _ =>
  decode_block 0 13 rfl (by decide) rfl ac m
theorem RoundTrip.luuo016 (ac : AcNum) (m : AddrPart) : RoundTrip.Statement (.luuo016 ac m) := fun _ =>
  decode_block 0 14 rfl (by decide) rfl ac m
theorem RoundTrip.luuo017 (ac : AcNum) (m : AddrPart) : RoundTrip.Statement (.luuo017 ac m) := fun _ =>
  decode_block 0 15 rfl (by decide) rfl ac m
theorem RoundTrip.luuo020 (ac : AcNum) (m : AddrPart) : RoundTrip.Statement (.luuo020 ac m) := fun _ =>
  decode_block 0 16 rfl (by decide) rfl ac m
theorem RoundTrip.luuo021 (ac : AcNum) (m : AddrPart) : RoundTrip.Statement (.luuo021 ac m) := fun _ =>
  decode_block 0 17 rfl (by decide) rfl ac m
theorem RoundTrip.luuo022 (ac : AcNum) (m : AddrPart) : RoundTrip.Statement (.luuo022 ac m) := fun _ =>
  decode_block 0 18 rfl (by decide) rfl ac m
theorem RoundTrip.luuo023 (ac : AcNum) (m : AddrPart) : RoundTrip.Statement (.luuo023 ac m) := fun _ =>
  decode_block 0 19 rfl (by decide) rfl ac m
theorem RoundTrip.luuo024 (ac : AcNum) (m : AddrPart) : RoundTrip.Statement (.luuo024 ac m) := fun _ =>
  decode_block 0 20 rfl (by decide) rfl ac m
theorem RoundTrip.luuo025 (ac : AcNum) (m : AddrPart) : RoundTrip.Statement (.luuo025 ac m) := fun _ =>
  decode_block 0 21 rfl (by decide) rfl ac m
theorem RoundTrip.luuo026 (ac : AcNum) (m : AddrPart) : RoundTrip.Statement (.luuo026 ac m) := fun _ =>
  decode_block 0 22 rfl (by decide) rfl ac m
theorem RoundTrip.luuo027 (ac : AcNum) (m : AddrPart) : RoundTrip.Statement (.luuo027 ac m) := fun _ =>
  decode_block 0 23 rfl (by decide) rfl ac m
theorem RoundTrip.luuo030 (ac : AcNum) (m : AddrPart) : RoundTrip.Statement (.luuo030 ac m) := fun _ =>
  decode_block 0 24 rfl (by decide) rfl ac m
theorem RoundTrip.luuo031 (ac : AcNum) (m : AddrPart) : RoundTrip.Statement (.luuo031 ac m) := fun _ =>
  decode_block 0 25 rfl (by decide) rfl ac m
theorem RoundTrip.luuo032 (ac : AcNum) (m : AddrPart) : RoundTrip.Statement (.luuo032 ac m) := fun _ =>
  decode_block 0 26 rfl (by decide) rfl ac m
theorem RoundTrip.luuo033 (ac : AcNum) (m : AddrPart) : RoundTrip.Statement (.luuo033 ac m) := fun _ =>
  decode_block 0 27 rfl (by decide) rfl ac m
theorem RoundTrip.luuo034 (ac : AcNum) (m : AddrPart) : RoundTrip.Statement (.luuo034 ac m) := fun _ =>
  decode_block 0 28 rfl (by decide) rfl ac m
theorem RoundTrip.luuo035 (ac : AcNum) (m : AddrPart) : RoundTrip.Statement (.luuo035 ac m) := fun _ =>
  decode_block 0 29 rfl (by decide) rfl ac m
theorem RoundTrip.luuo036 (ac : AcNum) (m : AddrPart) : RoundTrip.Statement (.luuo036 ac m) := fun _ =>
  decode_block 0 30 rfl (by decide) rfl ac m
theorem RoundTrip.luuo037 (ac : AcNum) (m : AddrPart) : RoundTrip.Statement (.luuo037 ac m) := fun _ =>
  decode_block 0 31 rfl (by decide) rfl ac m
theorem RoundTrip.muuo040 (ac : AcNum) (m : AddrPart) : RoundTrip.Statement (.muuo040 ac m) := fun _ =>
  decode_block 0 32 rfl (by decide) rfl ac m
theorem RoundTrip.muuo041 (ac : AcNum) (m : AddrPart) : RoundTrip.Statement (.muuo041 ac m) := fun _ =>
  decode_block 0 33 rfl (by decide) rfl ac m
theorem RoundTrip.muuo042 (ac : AcNum) (m : AddrPart) : RoundTrip.Statement (.muuo042 ac m) := fun _ =>
  decode_block 0 34 rfl (by decide) rfl ac m
theorem RoundTrip.muuo043 (ac : AcNum) (m : AddrPart) : RoundTrip.Statement (.muuo043 ac m) := fun _ =>
  decode_block 0 35 rfl (by decide) rfl ac m
theorem RoundTrip.muuo044 (ac : AcNum) (m : AddrPart) : RoundTrip.Statement (.muuo044 ac m) := fun _ =>
  decode_block 0 36 rfl (by decide) rfl ac m
theorem RoundTrip.muuo045 (ac : AcNum) (m : AddrPart) : RoundTrip.Statement (.muuo045 ac m) := fun _ =>
  decode_block 0 37 rfl (by decide) rfl ac m
theorem RoundTrip.muuo046 (ac : AcNum) (m : AddrPart) : RoundTrip.Statement (.muuo046 ac m) := fun _ =>
  decode_block 0 38 rfl (by decide) rfl ac m
theorem RoundTrip.muuo047 (ac : AcNum) (m : AddrPart) : RoundTrip.Statement (.muuo047 ac m) := fun _ =>
  decode_block 0 39 rfl (by decide) rfl ac m
theorem RoundTrip.muuo050 (ac : AcNum) (m : AddrPart) : RoundTrip.Statement (.muuo050 ac m) := fun _ =>
  decode_block 0 40 rfl (by decide) rfl ac m
theorem RoundTrip.muuo051 (ac : AcNum) (m : AddrPart) : RoundTrip.Statement (.muuo051 ac m) := fun _ =>
  decode_block 0 41 rfl (by decide) rfl ac m
theorem RoundTrip.muuo052 (ac : AcNum) (m : AddrPart) : RoundTrip.Statement (.muuo052 ac m) := fun _ =>
  decode_block 0 42 rfl (by decide) rfl ac m
theorem RoundTrip.muuo053 (ac : AcNum) (m : AddrPart) : RoundTrip.Statement (.muuo053 ac m) := fun _ =>
  decode_block 0 43 rfl (by decide) rfl ac m
theorem RoundTrip.muuo054 (ac : AcNum) (m : AddrPart) : RoundTrip.Statement (.muuo054 ac m) := fun _ =>
  decode_block 0 44 rfl (by decide) rfl ac m
theorem RoundTrip.muuo055 (ac : AcNum) (m : AddrPart) : RoundTrip.Statement (.muuo055 ac m) := fun _ =>
  decode_block 0 45 rfl (by decide) rfl ac m
theorem RoundTrip.muuo056 (ac : AcNum) (m : AddrPart) : RoundTrip.Statement (.muuo056 ac m) := fun _ =>
  decode_block 0 46 rfl (by decide) rfl ac m
theorem RoundTrip.muuo057 (ac : AcNum) (m : AddrPart) : RoundTrip.Statement (.muuo057 ac m) := fun _ =>
  decode_block 0 47 rfl (by decide) rfl ac m
theorem RoundTrip.muuo060 (ac : AcNum) (m : AddrPart) : RoundTrip.Statement (.muuo060 ac m) := fun _ =>
  decode_block 0 48 rfl (by decide) rfl ac m
theorem RoundTrip.muuo061 (ac : AcNum) (m : AddrPart) : RoundTrip.Statement (.muuo061 ac m) := fun _ =>
  decode_block 0 49 rfl (by decide) rfl ac m
theorem RoundTrip.muuo062 (ac : AcNum) (m : AddrPart) : RoundTrip.Statement (.muuo062 ac m) := fun _ =>
  decode_block 0 50 rfl (by decide) rfl ac m
theorem RoundTrip.muuo063 (ac : AcNum) (m : AddrPart) : RoundTrip.Statement (.muuo063 ac m) := fun _ =>
  decode_block 0 51 rfl (by decide) rfl ac m
theorem RoundTrip.muuo064 (ac : AcNum) (m : AddrPart) : RoundTrip.Statement (.muuo064 ac m) := fun _ =>
  decode_block 0 52 rfl (by decide) rfl ac m
theorem RoundTrip.muuo065 (ac : AcNum) (m : AddrPart) : RoundTrip.Statement (.muuo065 ac m) := fun _ =>
  decode_block 0 53 rfl (by decide) rfl ac m
theorem RoundTrip.muuo066 (ac : AcNum) (m : AddrPart) : RoundTrip.Statement (.muuo066 ac m) := fun _ =>
  decode_block 0 54 rfl (by decide) rfl ac m
theorem RoundTrip.muuo067 (ac : AcNum) (m : AddrPart) : RoundTrip.Statement (.muuo067 ac m) := fun _ =>
  decode_block 0 55 rfl (by decide) rfl ac m
theorem RoundTrip.muuo070 (ac : AcNum) (m : AddrPart) : RoundTrip.Statement (.muuo070 ac m) := fun _ =>
  decode_block 0 56 rfl (by decide) rfl ac m
theorem RoundTrip.muuo071 (ac : AcNum) (m : AddrPart) : RoundTrip.Statement (.muuo071 ac m) := fun _ =>
  decode_block 0 57 rfl (by decide) rfl ac m
theorem RoundTrip.muuo072 (ac : AcNum) (m : AddrPart) : RoundTrip.Statement (.muuo072 ac m) := fun _ =>
  decode_block 0 58 rfl (by decide) rfl ac m
theorem RoundTrip.muuo073 (ac : AcNum) (m : AddrPart) : RoundTrip.Statement (.muuo073 ac m) := fun _ =>
  decode_block 0 59 rfl (by decide) rfl ac m
theorem RoundTrip.muuo074 (ac : AcNum) (m : AddrPart) : RoundTrip.Statement (.muuo074 ac m) := fun _ =>
  decode_block 0 60 rfl (by decide) rfl ac m
theorem RoundTrip.muuo075 (ac : AcNum) (m : AddrPart) : RoundTrip.Statement (.muuo075 ac m) := fun _ =>
  decode_block 0 61 rfl (by decide) rfl ac m
theorem RoundTrip.muuo076 (ac : AcNum) (m : AddrPart) : RoundTrip.Statement (.muuo076 ac m) := fun _ =>
  decode_block 0 62 rfl (by decide) rfl ac m
theorem RoundTrip.muuo077 (ac : AcNum) (m : AddrPart) : RoundTrip.Statement (.muuo077 ac m) := fun _ =>
  decode_block 0 63 rfl (by decide) rfl ac m
theorem RoundTrip.unassigned100 (ac : AcNum) (m : AddrPart) : RoundTrip.Statement (.unassigned100 ac m) := fun _ =>
  decode_block 1 0 rfl (by decide) rfl ac m
theorem RoundTrip.unassigned101 (ac : AcNum) (m : AddrPart) : RoundTrip.Statement (.unassigned101 ac m) := fun _ =>
  decode_block 1 1 rfl (by decide) rfl ac m
theorem RoundTrip.unassigned102 (ac : AcNum) (m : AddrPart) : RoundTrip.Statement (.unassigned102 ac m) := fun _ =>
  decode_block 1 2 rfl (by decide) rfl ac m
theorem RoundTrip.unassigned103 (ac : AcNum) (m : AddrPart) : RoundTrip.Statement (.unassigned103 ac m) := fun _ =>
  decode_block 1 3 rfl (by decide) rfl ac m
theorem RoundTrip.unassigned104 (ac : AcNum) (m : AddrPart) : RoundTrip.Statement (.unassigned104 ac m) := fun _ =>
  decode_block 1 4 rfl (by decide) rfl ac m
theorem RoundTrip.unassigned106 (ac : AcNum) (m : AddrPart) : RoundTrip.Statement (.unassigned106 ac m) := fun _ =>
  decode_block 1 6 rfl (by decide) rfl ac m
theorem RoundTrip.unassigned107 (ac : AcNum) (m : AddrPart) : RoundTrip.Statement (.unassigned107 ac m) := fun _ =>
  decode_block 1 7 rfl (by decide) rfl ac m
theorem RoundTrip.unassigned110 (ac : AcNum) (m : AddrPart) : RoundTrip.Statement (.unassigned110 ac m) := fun _ =>
  decode_block 1 8 rfl (by decide) rfl ac m
theorem RoundTrip.unassigned111 (ac : AcNum) (m : AddrPart) : RoundTrip.Statement (.unassigned111 ac m) := fun _ =>
  decode_block 1 9 rfl (by decide) rfl ac m
theorem RoundTrip.unassigned112 (ac : AcNum) (m : AddrPart) : RoundTrip.Statement (.unassigned112 ac m) := fun _ =>
  decode_block 1 10 rfl (by decide) rfl ac m
theorem RoundTrip.unassigned113 (ac : AcNum) (m : AddrPart) : RoundTrip.Statement (.unassigned113 ac m) := fun _ =>
  decode_block 1 11 rfl (by decide) rfl ac m
theorem RoundTrip.unassigned122 (ac : AcNum) (m : AddrPart) : RoundTrip.Statement (.unassigned122 ac m) := fun _ =>
  decode_block 1 18 rfl (by decide) rfl ac m
theorem RoundTrip.unassigned123 (ac : AcNum) (m : AddrPart) : RoundTrip.Statement (.unassigned123 ac m) := fun _ =>
  decode_block 1 19 rfl (by decide) rfl ac m
theorem RoundTrip.unassigned126 (ac : AcNum) (m : AddrPart) : RoundTrip.Statement (.unassigned126 ac m) := fun _ =>
  decode_block 1 22 rfl (by decide) rfl ac m
theorem RoundTrip.unassigned127 (ac : AcNum) (m : AddrPart) : RoundTrip.Statement (.unassigned127 ac m) := fun _ =>
  decode_block 1 23 rfl (by decide) rfl ac m
theorem RoundTrip.unassigned130 (ac : AcNum) (m : AddrPart) : RoundTrip.Statement (.unassigned130 ac m) := fun _ =>
  decode_block 1 24 rfl (by decide) rfl ac m
theorem RoundTrip.unassigned131 (ac : AcNum) (m : AddrPart) : RoundTrip.Statement (.unassigned131 ac m) := fun _ =>
  decode_block 1 25 rfl (by decide) rfl ac m
theorem RoundTrip.unassigned132 (ac : AcNum) (m : AddrPart) : RoundTrip.Statement (.unassigned132 ac m) := fun _ =>
  decode_block 1 26 rfl (by decide) rfl ac m
theorem RoundTrip.unassigned140 (ac : AcNum) (m : AddrPart) : RoundTrip.Statement (.unassigned140 ac m) := fun _ =>
  decode_block 1 32 rfl (by decide) rfl ac m
theorem RoundTrip.unassigned141 (ac : AcNum) (m : AddrPart) : RoundTrip.Statement (.unassigned141 ac m) := fun _ =>
  decode_block 1 33 rfl (by decide) rfl ac m
theorem RoundTrip.unassigned142 (ac : AcNum) (m : AddrPart) : RoundTrip.Statement (.unassigned142 ac m) := fun _ =>
  decode_block 1 34 rfl (by decide) rfl ac m
theorem RoundTrip.unassigned143 (ac : AcNum) (m : AddrPart) : RoundTrip.Statement (.unassigned143 ac m) := fun _ =>
  decode_block 1 35 rfl (by decide) rfl ac m
theorem RoundTrip.unassigned144 (ac : AcNum) (m : AddrPart) : RoundTrip.Statement (.unassigned144 ac m) := fun _ =>
  decode_block 1 36 rfl (by decide) rfl ac m
theorem RoundTrip.unassigned145 (ac : AcNum) (m : AddrPart) : RoundTrip.Statement (.unassigned145 ac m) := fun _ =>
  decode_block 1 37 rfl (by decide) rfl ac m
theorem RoundTrip.unassigned146 (ac : AcNum) (m : AddrPart) : RoundTrip.Statement (.unassigned146 ac m) := fun _ =>
  decode_block 1 38 rfl (by decide) rfl ac m
theorem RoundTrip.unassigned147 (ac : AcNum) (m : AddrPart) : RoundTrip.Statement (.unassigned147 ac m) := fun _ =>
  decode_block 1 39 rfl (by decide) rfl ac m
theorem RoundTrip.unassigned150 (ac : AcNum) (m : AddrPart) : RoundTrip.Statement (.unassigned150 ac m) := fun _ =>
  decode_block 1 40 rfl (by decide) rfl ac m
theorem RoundTrip.unassigned151 (ac : AcNum) (m : AddrPart) : RoundTrip.Statement (.unassigned151 ac m) := fun _ =>
  decode_block 1 41 rfl (by decide) rfl ac m
theorem RoundTrip.unassigned152 (ac : AcNum) (m : AddrPart) : RoundTrip.Statement (.unassigned152 ac m) := fun _ =>
  decode_block 1 42 rfl (by decide) rfl ac m
theorem RoundTrip.unassigned153 (ac : AcNum) (m : AddrPart) : RoundTrip.Statement (.unassigned153 ac m) := fun _ =>
  decode_block 1 43 rfl (by decide) rfl ac m
theorem RoundTrip.unassigned154 (ac : AcNum) (m : AddrPart) : RoundTrip.Statement (.unassigned154 ac m) := fun _ =>
  decode_block 1 44 rfl (by decide) rfl ac m
theorem RoundTrip.unassigned155 (ac : AcNum) (m : AddrPart) : RoundTrip.Statement (.unassigned155 ac m) := fun _ =>
  decode_block 1 45 rfl (by decide) rfl ac m
theorem RoundTrip.unassigned156 (ac : AcNum) (m : AddrPart) : RoundTrip.Statement (.unassigned156 ac m) := fun _ =>
  decode_block 1 46 rfl (by decide) rfl ac m
theorem RoundTrip.unassigned157 (ac : AcNum) (m : AddrPart) : RoundTrip.Statement (.unassigned157 ac m) := fun _ =>
  decode_block 1 47 rfl (by decide) rfl ac m
theorem RoundTrip.unassigned160 (ac : AcNum) (m : AddrPart) : RoundTrip.Statement (.unassigned160 ac m) := fun _ =>
  decode_block 1 48 rfl (by decide) rfl ac m
theorem RoundTrip.unassigned161 (ac : AcNum) (m : AddrPart) : RoundTrip.Statement (.unassigned161 ac m) := fun _ =>
  decode_block 1 49 rfl (by decide) rfl ac m
theorem RoundTrip.unassigned162 (ac : AcNum) (m : AddrPart) : RoundTrip.Statement (.unassigned162 ac m) := fun _ =>
  decode_block 1 50 rfl (by decide) rfl ac m
theorem RoundTrip.unassigned163 (ac : AcNum) (m : AddrPart) : RoundTrip.Statement (.unassigned163 ac m) := fun _ =>
  decode_block 1 51 rfl (by decide) rfl ac m
theorem RoundTrip.unassigned164 (ac : AcNum) (m : AddrPart) : RoundTrip.Statement (.unassigned164 ac m) := fun _ =>
  decode_block 1 52 rfl (by decide) rfl ac m
theorem RoundTrip.unassigned165 (ac : AcNum) (m : AddrPart) : RoundTrip.Statement (.unassigned165 ac m) := fun _ =>
  decode_block 1 53 rfl (by decide) rfl ac m
theorem RoundTrip.unassigned166 (ac : AcNum) (m : AddrPart) : RoundTrip.Statement (.unassigned166 ac m) := fun _ =>
  decode_block 1 54 rfl (by decide) rfl ac m
theorem RoundTrip.unassigned167 (ac : AcNum) (m : AddrPart) : RoundTrip.Statement (.unassigned167 ac m) := fun _ =>
  decode_block 1 55 rfl (by decide) rfl ac m
theorem RoundTrip.unassigned170 (ac : AcNum) (m : AddrPart) : RoundTrip.Statement (.unassigned170 ac m) := fun _ =>
  decode_block 1 56 rfl (by decide) rfl ac m
theorem RoundTrip.unassigned171 (ac : AcNum) (m : AddrPart) : RoundTrip.Statement (.unassigned171 ac m) := fun _ =>
  decode_block 1 57 rfl (by decide) rfl ac m
theorem RoundTrip.unassigned172 (ac : AcNum) (m : AddrPart) : RoundTrip.Statement (.unassigned172 ac m) := fun _ =>
  decode_block 1 58 rfl (by decide) rfl ac m
theorem RoundTrip.unassigned173 (ac : AcNum) (m : AddrPart) : RoundTrip.Statement (.unassigned173 ac m) := fun _ =>
  decode_block 1 59 rfl (by decide) rfl ac m
theorem RoundTrip.unassigned174 (ac : AcNum) (m : AddrPart) : RoundTrip.Statement (.unassigned174 ac m) := fun _ =>
  decode_block 1 60 rfl (by decide) rfl ac m
theorem RoundTrip.unassigned175 (ac : AcNum) (m : AddrPart) : RoundTrip.Statement (.unassigned175 ac m) := fun _ =>
  decode_block 1 61 rfl (by decide) rfl ac m
theorem RoundTrip.unassigned176 (ac : AcNum) (m : AddrPart) : RoundTrip.Statement (.unassigned176 ac m) := fun _ =>
  decode_block 1 62 rfl (by decide) rfl ac m
theorem RoundTrip.unassigned177 (ac : AcNum) (m : AddrPart) : RoundTrip.Statement (.unassigned177 ac m) := fun _ =>
  decode_block 1 63 rfl (by decide) rfl ac m
theorem RoundTrip.unassigned247 (ac : AcNum) (m : AddrPart) : RoundTrip.Statement (.unassigned247 ac m) := fun _ =>
  decode_block 2 39 rfl (by decide) rfl ac m
theorem RoundTrip.unassigned257 (ac : AcNum) (m : AddrPart) : RoundTrip.Statement (.unassigned257 ac m) := fun _ =>
  decode_block 2 47 rfl (by decide) rfl ac m
theorem RoundTrip.blki (dev : DevId) (m : AddrPart) : RoundTrip.Statement (.blki dev m) := fun _ =>
  decode_ioWord dev 0 m
theorem RoundTrip.datai (dev : DevId) (m : AddrPart) : RoundTrip.Statement (.datai dev m) := fun _ =>
  decode_ioWord dev 1 m
theorem RoundTrip.blko (dev : DevId) (m : AddrPart) : RoundTrip.Statement (.blko dev m) := fun _ =>
  decode_ioWord dev 2 m
theorem RoundTrip.datao (dev : DevId) (m : AddrPart) : RoundTrip.Statement (.datao dev m) := fun _ =>
  decode_ioWord dev 3 m
theorem RoundTrip.cono (dev : DevId) (m : AddrPart) : RoundTrip.Statement (.cono dev m) := fun _ =>
  decode_ioWord dev 4 m
theorem RoundTrip.coni (dev : DevId) (m : AddrPart) : RoundTrip.Statement (.coni dev m) := fun _ =>
  decode_ioWord dev 5 m
theorem RoundTrip.consz (dev : DevId) (m : AddrPart) : RoundTrip.Statement (.consz dev m) := fun _ =>
  decode_ioWord dev 6 m
theorem RoundTrip.conso (dev : DevId) (m : AddrPart) : RoundTrip.Statement (.conso dev m) := fun _ =>
  decode_ioWord dev 7 m

end Sys2Proof.Laws
end

