-- ==== Sys2Proof/Tests/Slice0.lean ====
section
/-!
SUPPORT. Tests. The words of the decode tests are written from the encodings of spec/30_encoding.md (opcode, function or
sub-operation from spec/opcode_table.json, the operand fields chosen so that every one differs); the steps are test
vectors of the spec; the witnesses show that the hypotheses of each statement can be met.
-/

namespace Sys2Proof.Tests

open Sys2Proof Sys2Proof.Machine

-- One theorem at a time: the kernel evaluations below would otherwise run in many threads at once.
set_option Elab.async false

/-- A running machine with a word to run at `pc`, some accumulators, some memory and FLAGS. -/
def start (pc : VAddr) (w : Word) (acs : List (AcNum × Word)) (mem : List (Nat × Word)) (flags : BitVec 13) : State :=
  acs.foldl (fun s p => s.setAc p.1 p.2)
    (State.poke { State.reset with running := true, pc := pc, mem := mem, flags := flags } pc w)

/-- The same with other controller registers. -/
def withPi (p : InterruptController) (s : State) : State := { s with pi := p }

/-- Whether one step ends with these words at these addresses, these FLAGS and this PC. -/
def ends (s : State) (words : List (VAddr × Word)) (flags : BitVec 13) (pc : VAddr) : Bool :=
  match step s with
  | .next t => words.all (fun c => t.peek c.1 == c.2) && t.flags == flags && t.pc == pc
  | _ => false

/-- The controller after one step. -/
def piAfter (s : State) : Option InterruptController :=
  match step s with
  | .next t => some t.pi
  | _ => none

-- Well-formedness

/-- Opcode 0133 with `ac` = 0 is IBP, so this is no instruction (R91). -/
theorem test_adjbp_zero_refused : Instr.wellFormed (.adjbp 0 ⟨false, 0, 0o2000⟩) = false := by decide

theorem test_adjbp_five_accepted : Instr.wellFormed (.adjbp 5 ⟨false, 0, 0o2000⟩) = true := by decide

-- Decoding, one word for every constructor

theorem test_decode_move : ∀ p ∈ ([(0o200127023427, .move 2 ⟨true, 7, 0o23427⟩),
     (0o201156047056, .movei 3 ⟨false, 0o16, 0o47056⟩),
     (0o202225072505, .movem 4 ⟨true, 5, 0o72505⟩),
     (0o203254116134, .moves 5 ⟨false, 0o14, 0o116134⟩),
     (0o204323141563, .movs 6 ⟨true, 3, 0o141563⟩),
     (0o205352165212, .movsi 7 ⟨false, 0o12, 0o165212⟩),
     (0o206421210641, .movsm 0o10 ⟨true, 1, 0o210641⟩),
     (0o207450234270, .movss 0o11 ⟨false, 0o10, 0o234270⟩),
     (0o210537257717, .movn 0o12 ⟨true, 0o17, 0o257717⟩),
     (0o211546303346, .movni 0o13 ⟨false, 6, 0o303346⟩),
     (0o212635326775, .movnm 0o14 ⟨true, 0o15, 0o326775⟩),
     (0o213644352424, .movns 0o15 ⟨false, 4, 0o352424⟩),
     (0o214733376053, .movm 0o16 ⟨true, 0o13, 0o376053⟩),
     (0o215742421502, .movmi 0o17 ⟨false, 2, 0o421502⟩),
     (0o216071445131, .movmm 1 ⟨true, 0o11, 0o445131⟩),
     (0o217100470560, .movms 2 ⟨false, 0, 0o470560⟩),
     (0o250167514207, .exch 3 ⟨true, 7, 0o514207⟩),
     (0o251216537636, .blt 4 ⟨false, 0o16, 0o537636⟩),
     (0o120265563265, .dmove 5 ⟨true, 5, 0o563265⟩),
     (0o121314606714, .dmovn 6 ⟨false, 0o14, 0o606714⟩),
     (0o124363632343, .dmovem 7 ⟨true, 3, 0o632343⟩),
     (0o125412655772, .dmovnm 0o10 ⟨false, 0o12, 0o655772⟩)] :
    List (Word × Instr)), decode p.1 = p.2 := by decide +kernel

theorem test_decode_arith : ∀ p ∈ ([(0o270461701421, .add 0o11 ⟨true, 1, 0o701421⟩),
     (0o271510725050, .addi 0o12 ⟨false, 0o10, 0o725050⟩),
     (0o272577750477, .addm 0o13 ⟨true, 0o17, 0o750477⟩),
     (0o273606774126, .addb 0o14 ⟨false, 6, 0o774126⟩),
     (0o274675017555, .sub 0o15 ⟨true, 0o15, 0o17555⟩),
     (0o275704043204, .subi 0o16 ⟨false, 4, 0o43204⟩),
     (0o276773066633, .subm 0o17 ⟨true, 0o13, 0o66633⟩),
     (0o277042112262, .subb 1 ⟨false, 2, 0o112262⟩),
     (0o220131135711, .imul 2 ⟨true, 0o11, 0o135711⟩),
     (0o221140161340, .imuli 3 ⟨false, 0, 0o161340⟩),
     (0o222227204767, .imulm 4 ⟨true, 7, 0o204767⟩),
     (0o223256230416, .imulb 5 ⟨false, 0o16, 0o230416⟩),
     (0o224325254045, .mul 6 ⟨true, 5, 0o254045⟩),
     (0o225354277474, .muli 7 ⟨false, 0o14, 0o277474⟩),
     (0o226423323123, .mulm 0o10 ⟨true, 3, 0o323123⟩),
     (0o227452346552, .mulb 0o11 ⟨false, 0o12, 0o346552⟩),
     (0o230521372201, .idiv 0o12 ⟨true, 1, 0o372201⟩),
     (0o231550415630, .idivi 0o13 ⟨false, 0o10, 0o415630⟩),
     (0o232637441257, .idivm 0o14 ⟨true, 0o17, 0o441257⟩),
     (0o233646464706, .idivb 0o15 ⟨false, 6, 0o464706⟩),
     (0o234735510335, .div 0o16 ⟨true, 0o15, 0o510335⟩),
     (0o235744533764, .divi 0o17 ⟨false, 4, 0o533764⟩),
     (0o236073557413, .divm 1 ⟨true, 0o13, 0o557413⟩),
     (0o237102603042, .divb 2 ⟨false, 2, 0o603042⟩),
     (0o114171626471, .dadd 3 ⟨true, 0o11, 0o626471⟩),
     (0o115200652120, .dsub 4 ⟨false, 0, 0o652120⟩),
     (0o116267675547, .dmul 5 ⟨true, 7, 0o675547⟩),
     (0o117316721176, .ddiv 6 ⟨false, 0o16, 0o721176⟩)] :
    List (Word × Instr)), decode p.1 = p.2 := by decide +kernel

theorem test_decode_bool1 : ∀ p ∈ ([(0o400365744625, .setz 7 ⟨true, 5, 0o744625⟩),
     (0o401414770254, .setzi 0o10 ⟨false, 0o14, 0o770254⟩),
     (0o402463013703, .setzm 0o11 ⟨true, 3, 0o13703⟩),
     (0o403512037332, .setzb 0o12 ⟨false, 0o12, 0o37332⟩),
     (0o404561062761, .and 0o13 ⟨true, 1, 0o62761⟩),
     (0o405610106410, .andi 0o14 ⟨false, 0o10, 0o106410⟩),
     (0o406677132037, .andm 0o15 ⟨true, 0o17, 0o132037⟩),
     (0o407706155466, .andb 0o16 ⟨false, 6, 0o155466⟩),
     (0o410775201115, .andca 0o17 ⟨true, 0o15, 0o201115⟩),
     (0o411044224544, .andcai 1 ⟨false, 4, 0o224544⟩),
     (0o412133250173, .andcam 2 ⟨true, 0o13, 0o250173⟩),
     (0o413142273622, .andcab 3 ⟨false, 2, 0o273622⟩),
     (0o414231317251, .setm 4 ⟨true, 0o11, 0o317251⟩),
     (0o415240342700, .setmi 5 ⟨false, 0, 0o342700⟩),
     (0o416327366327, .setmm 6 ⟨true, 7, 0o366327⟩),
     (0o417356411756, .setmb 7 ⟨false, 0o16, 0o411756⟩),
     (0o420425435405, .andcm 0o10 ⟨true, 5, 0o435405⟩),
     (0o421454461034, .andcmi 0o11 ⟨false, 0o14, 0o461034⟩),
     (0o422523504463, .andcmm 0o12 ⟨true, 3, 0o504463⟩),
     (0o423552530112, .andcmb 0o13 ⟨false, 0o12, 0o530112⟩),
     (0o424621553541, .seta 0o14 ⟨true, 1, 0o553541⟩),
     (0o425650577170, .setai 0o15 ⟨false, 0o10, 0o577170⟩),
     (0o426737622617, .setam 0o16 ⟨true, 0o17, 0o622617⟩),
     (0o427746646246, .setab 0o17 ⟨false, 6, 0o646246⟩),
     (0o430075671675, .xor 1 ⟨true, 0o15, 0o671675⟩),
     (0o431104715324, .xori 2 ⟨false, 4, 0o715324⟩),
     (0o432173740753, .xorm 3 ⟨true, 0o13, 0o740753⟩),
     (0o433202764402, .xorb 4 ⟨false, 2, 0o764402⟩),
     (0o434271010031, .ior 5 ⟨true, 0o11, 0o10031⟩),
     (0o435300033460, .iori 6 ⟨false, 0, 0o33460⟩),
     (0o436367057107, .iorm 7 ⟨true, 7, 0o57107⟩),
     (0o437416102536, .iorb 0o10 ⟨false, 0o16, 0o102536⟩)] :
    List (Word × Instr)), decode p.1 = p.2 := by decide +kernel

theorem test_decode_bool2 : ∀ p ∈ ([(0o440465126165, .andcb 0o11 ⟨true, 5, 0o126165⟩),
     (0o441514151614, .andcbi 0o12 ⟨false, 0o14, 0o151614⟩),
     (0o442563175243, .andcbm 0o13 ⟨true, 3, 0o175243⟩),
     (0o443612220672, .andcbb 0o14 ⟨false, 0o12, 0o220672⟩),
     (0o444661244321, .eqv 0o15 ⟨true, 1, 0o244321⟩),
     (0o445710267750, .eqvi 0o16 ⟨false, 0o10, 0o267750⟩),
     (0o446777313377, .eqvm 0o17 ⟨true, 0o17, 0o313377⟩),
     (0o447046337026, .eqvb 1 ⟨false, 6, 0o337026⟩),
     (0o450135362455, .setca 2 ⟨true, 0o15, 0o362455⟩),
     (0o451144406104, .setcai 3 ⟨false, 4, 0o406104⟩),
     (0o452233431533, .setcam 4 ⟨true, 0o13, 0o431533⟩),
     (0o453242455162, .setcab 5 ⟨false, 2, 0o455162⟩),
     (0o454331500611, .orca 6 ⟨true, 0o11, 0o500611⟩),
     (0o455340524240, .orcai 7 ⟨false, 0, 0o524240⟩),
     (0o456427547667, .orcam 0o10 ⟨true, 7, 0o547667⟩),
     (0o457456573316, .orcab 0o11 ⟨false, 0o16, 0o573316⟩),
     (0o460525616745, .setcm 0o12 ⟨true, 5, 0o616745⟩),
     (0o461554642374, .setcmi 0o13 ⟨false, 0o14, 0o642374⟩),
     (0o462623666023, .setcmm 0o14 ⟨true, 3, 0o666023⟩),
     (0o463652711452, .setcmb 0o15 ⟨false, 0o12, 0o711452⟩),
     (0o464721735101, .orcm 0o16 ⟨true, 1, 0o735101⟩),
     (0o465750760530, .orcmi 0o17 ⟨false, 0o10, 0o760530⟩),
     (0o466077004157, .orcmm 1 ⟨true, 0o17, 0o4157⟩),
     (0o467106027606, .orcmb 2 ⟨false, 6, 0o27606⟩),
     (0o470175053235, .orcb 3 ⟨true, 0o15, 0o53235⟩),
     (0o471204076664, .orcbi 4 ⟨false, 4, 0o76664⟩),
     (0o472273122313, .orcbm 5 ⟨true, 0o13, 0o122313⟩),
     (0o473302145742, .orcbb 6 ⟨false, 2, 0o145742⟩),
     (0o474371171371, .seto 7 ⟨true, 0o11, 0o171371⟩),
     (0o475400215020, .setoi 0o10 ⟨false, 0, 0o215020⟩),
     (0o476467240447, .setom 0o11 ⟨true, 7, 0o240447⟩),
     (0o477516264076, .setob 0o12 ⟨false, 0o16, 0o264076⟩)] :
    List (Word × Instr)), decode p.1 = p.2 := by decide +kernel

theorem test_decode_shift : ∀ p ∈ ([(0o240565307525, .ash 0o13 ⟨true, 5, 0o307525⟩),
     (0o241614333154, .rot 0o14 ⟨false, 0o14, 0o333154⟩),
     (0o242663356603, .lsh 0o15 ⟨true, 3, 0o356603⟩),
     (0o244712402232, .ashc 0o16 ⟨false, 0o12, 0o402232⟩),
     (0o245761425661, .rotc 0o17 ⟨true, 1, 0o425661⟩),
     (0o246050451310, .lshc 1 ⟨false, 0o10, 0o451310⟩)] :
    List (Word × Instr)), decode p.1 = p.2 := by decide +kernel

theorem test_decode_test1 : ∀ p ∈ ([(0o300137474737, .cai 2 ⟨true, 0o17, 0o474737⟩),
     (0o301146520366, .cail 3 ⟨false, 6, 0o520366⟩),
     (0o302235544015, .caie 4 ⟨true, 0o15, 0o544015⟩),
     (0o303244567444, .caile 5 ⟨false, 4, 0o567444⟩),
     (0o304333613073, .caia 6 ⟨true, 0o13, 0o613073⟩),
     (0o305342636522, .caige 7 ⟨false, 2, 0o636522⟩),
     (0o306431662151, .cain 0o10 ⟨true, 0o11, 0o662151⟩),
     (0o307440705600, .caig 0o11 ⟨false, 0, 0o705600⟩),
     (0o310527731227, .cam 0o12 ⟨true, 7, 0o731227⟩),
     (0o311556754656, .caml 0o13 ⟨false, 0o16, 0o754656⟩),
     (0o312625000305, .came 0o14 ⟨true, 5, 0o305⟩),
     (0o313654023734, .camle 0o15 ⟨false, 0o14, 0o23734⟩),
     (0o314723047363, .cama 0o16 ⟨true, 3, 0o47363⟩),
     (0o315752073012, .camge 0o17 ⟨false, 0o12, 0o73012⟩),
     (0o316061116441, .camn 1 ⟨true, 1, 0o116441⟩),
     (0o317110142070, .camg 2 ⟨false, 0o10, 0o142070⟩),
     (0o320177165517, .jump 3 ⟨true, 0o17, 0o165517⟩),
     (0o321206211146, .jumpl 4 ⟨false, 6, 0o211146⟩),
     (0o322275234575, .jumpe 5 ⟨true, 0o15, 0o234575⟩),
     (0o323304260224, .jumple 6 ⟨false, 4, 0o260224⟩),
     (0o324373303653, .jumpa 7 ⟨true, 0o13, 0o303653⟩),
     (0o325402327302, .jumpge 0o10 ⟨false, 2, 0o327302⟩),
     (0o326471352731, .jumpn 0o11 ⟨true, 0o11, 0o352731⟩),
     (0o327500376360, .jumpg 0o12 ⟨false, 0, 0o376360⟩),
     (0o330567422007, .skip 0o13 ⟨true, 7, 0o422007⟩),
     (0o331616445436, .skipl 0o14 ⟨false, 0o16, 0o445436⟩),
     (0o332665471065, .skipe 0o15 ⟨true, 5, 0o471065⟩),
     (0o333714514514, .skiple 0o16 ⟨false, 0o14, 0o514514⟩),
     (0o334763540143, .skipa 0o17 ⟨true, 3, 0o540143⟩),
     (0o335052563572, .skipge 1 ⟨false, 0o12, 0o563572⟩),
     (0o336121607221, .skipn 2 ⟨true, 1, 0o607221⟩),
     (0o337150632650, .skipg 3 ⟨false, 0o10, 0o632650⟩)] :
    List (Word × Instr)), decode p.1 = p.2 := by decide +kernel

theorem test_decode_test2 : ∀ p ∈ ([(0o340237656277, .aoj 4 ⟨true, 0o17, 0o656277⟩),
     (0o341246701726, .aojl 5 ⟨false, 6, 0o701726⟩),
     (0o342335725355, .aoje 6 ⟨true, 0o15, 0o725355⟩),
     (0o343344751004, .aojle 7 ⟨false, 4, 0o751004⟩),
     (0o344433774433, .aoja 0o10 ⟨true, 0o13, 0o774433⟩),
     (0o345442020062, .aojge 0o11 ⟨false, 2, 0o20062⟩),
     (0o346531043511, .aojn 0o12 ⟨true, 0o11, 0o43511⟩),
     (0o347540067140, .aojg 0o13 ⟨false, 0, 0o67140⟩),
     (0o350627112567, .aos 0o14 ⟨true, 7, 0o112567⟩),
     (0o351656136216, .aosl 0o15 ⟨false, 0o16, 0o136216⟩),
     (0o352725161645, .aose 0o16 ⟨true, 5, 0o161645⟩),
     (0o353754205274, .aosle 0o17 ⟨false, 0o14, 0o205274⟩),
     (0o354063230723, .aosa 1 ⟨true, 3, 0o230723⟩),
     (0o355112254352, .aosge 2 ⟨false, 0o12, 0o254352⟩),
     (0o356161300001, .aosn 3 ⟨true, 1, 0o300001⟩),
     (0o357210323430, .aosg 4 ⟨false, 0o10, 0o323430⟩),
     (0o360277347057, .soj 5 ⟨true, 0o17, 0o347057⟩),
     (0o361306372506, .sojl 6 ⟨false, 6, 0o372506⟩),
     (0o362375416135, .soje 7 ⟨true, 0o15, 0o416135⟩),
     (0o363404441564, .sojle 0o10 ⟨false, 4, 0o441564⟩),
     (0o364473465213, .soja 0o11 ⟨true, 0o13, 0o465213⟩),
     (0o365502510642, .sojge 0o12 ⟨false, 2, 0o510642⟩),
     (0o366571534271, .sojn 0o13 ⟨true, 0o11, 0o534271⟩),
     (0o367600557720, .sojg 0o14 ⟨false, 0, 0o557720⟩),
     (0o370667603347, .sos 0o15 ⟨true, 7, 0o603347⟩),
     (0o371716626776, .sosl 0o16 ⟨false, 0o16, 0o626776⟩),
     (0o372765652425, .sose 0o17 ⟨true, 5, 0o652425⟩),
     (0o373054676054, .sosle 1 ⟨false, 0o14, 0o676054⟩),
     (0o374123721503, .sosa 2 ⟨true, 3, 0o721503⟩),
     (0o375152745132, .sosge 3 ⟨false, 0o12, 0o745132⟩),
     (0o376221770561, .sosn 4 ⟨true, 1, 0o770561⟩),
     (0o377250014210, .sosg 5 ⟨false, 0o10, 0o14210⟩)] :
    List (Word × Instr)), decode p.1 = p.2 := by decide +kernel

theorem test_decode_test3 : ∀ p ∈ ([(0o252337037637, .aobjp 6 ⟨true, 0o17, 0o37637⟩),
     (0o253346063266, .aobjn 7 ⟨false, 6, 0o63266⟩),
     (0o243435106715, .jffo 0o10 ⟨true, 0o15, 0o106715⟩)] :
    List (Word × Instr)), decode p.1 = p.2 := by decide +kernel

theorem test_decode_half1 : ∀ p ∈ ([(0o500444132344, .hll 0o11 ⟨false, 4, 0o132344⟩),
     (0o501533155773, .hlli 0o12 ⟨true, 0o13, 0o155773⟩),
     (0o502542201422, .hllm 0o13 ⟨false, 2, 0o201422⟩),
     (0o503631225051, .hlls 0o14 ⟨true, 0o11, 0o225051⟩),
     (0o504640250500, .hrl 0o15 ⟨false, 0, 0o250500⟩),
     (0o505727274127, .hrli 0o16 ⟨true, 7, 0o274127⟩),
     (0o506756317556, .hrlm 0o17 ⟨false, 0o16, 0o317556⟩),
     (0o507065343205, .hrls 1 ⟨true, 5, 0o343205⟩),
     (0o510114366634, .hllz 2 ⟨false, 0o14, 0o366634⟩),
     (0o511163412263, .hllzi 3 ⟨true, 3, 0o412263⟩),
     (0o512212435712, .hllzm 4 ⟨false, 0o12, 0o435712⟩),
     (0o513261461341, .hllzs 5 ⟨true, 1, 0o461341⟩),
     (0o514310504770, .hrlz 6 ⟨false, 0o10, 0o504770⟩),
     (0o515377530417, .hrlzi 7 ⟨true, 0o17, 0o530417⟩),
     (0o516406554046, .hrlzm 0o10 ⟨false, 6, 0o554046⟩),
     (0o517475577475, .hrlzs 0o11 ⟨true, 0o15, 0o577475⟩),
     (0o520504623124, .hllo 0o12 ⟨false, 4, 0o623124⟩),
     (0o521573646553, .hlloi 0o13 ⟨true, 0o13, 0o646553⟩),
     (0o522602672202, .hllom 0o14 ⟨false, 2, 0o672202⟩),
     (0o523671715631, .hllos 0o15 ⟨true, 0o11, 0o715631⟩),
     (0o524700741260, .hrlo 0o16 ⟨false, 0, 0o741260⟩),
     (0o525767764707, .hrloi 0o17 ⟨true, 7, 0o764707⟩),
     (0o526056010336, .hrlom 1 ⟨false, 0o16, 0o10336⟩),
     (0o527125033765, .hrlos 2 ⟨true, 5, 0o33765⟩),
     (0o530154057414, .hlle 3 ⟨false, 0o14, 0o57414⟩),
     (0o531223103043, .hllei 4 ⟨true, 3, 0o103043⟩),
     (0o532252126472, .hllem 5 ⟨false, 0o12, 0o126472⟩),
     (0o533321152121, .hlles 6 ⟨true, 1, 0o152121⟩),
     (0o534350175550, .hrle 7 ⟨false, 0o10, 0o175550⟩),
     (0o535437221177, .hrlei 0o10 ⟨true, 0o17, 0o221177⟩),
     (0o536446244626, .hrlem 0o11 ⟨false, 6, 0o244626⟩),
     (0o537535270255, .hrles 0o12 ⟨true, 0o15, 0o270255⟩)] :
    List (Word × Instr)), decode p.1 = p.2 := by decide +kernel

theorem test_decode_half2 : ∀ p ∈ ([(0o540544313704, .hrr 0o13 ⟨false, 4, 0o313704⟩),
     (0o541633337333, .hrri 0o14 ⟨true, 0o13, 0o337333⟩),
     (0o542642362762, .hrrm 0o15 ⟨false, 2, 0o362762⟩),
     (0o543731406411, .hrrs 0o16 ⟨true, 0o11, 0o406411⟩),
     (0o544740432040, .hlr 0o17 ⟨false, 0, 0o432040⟩),
     (0o545067455467, .hlri 1 ⟨true, 7, 0o455467⟩),
     (0o546116501116, .hlrm 2 ⟨false, 0o16, 0o501116⟩),
     (0o547165524545, .hlrs 3 ⟨true, 5, 0o524545⟩),
     (0o550214550174, .hrrz 4 ⟨false, 0o14, 0o550174⟩),
     (0o551263573623, .hrrzi 5 ⟨true, 3, 0o573623⟩),
     (0o552312617252, .hrrzm 6 ⟨false, 0o12, 0o617252⟩),
     (0o553361642701, .hrrzs 7 ⟨true, 1, 0o642701⟩),
     (0o554410666330, .hlrz 0o10 ⟨false, 0o10, 0o666330⟩),
     (0o555477711757, .hlrzi 0o11 ⟨true, 0o17, 0o711757⟩),
     (0o556506735406, .hlrzm 0o12 ⟨false, 6, 0o735406⟩),
     (0o557575761035, .hlrzs 0o13 ⟨true, 0o15, 0o761035⟩),
     (0o560604004464, .hrro 0o14 ⟨false, 4, 0o4464⟩),
     (0o561673030113, .hrroi 0o15 ⟨true, 0o13, 0o30113⟩),
     (0o562702053542, .hrrom 0o16 ⟨false, 2, 0o53542⟩),
     (0o563771077171, .hrros 0o17 ⟨true, 0o11, 0o77171⟩),
     (0o564040122620, .hlro 1 ⟨false, 0, 0o122620⟩),
     (0o565127146247, .hlroi 2 ⟨true, 7, 0o146247⟩),
     (0o566156171676, .hlrom 3 ⟨false, 0o16, 0o171676⟩),
     (0o567225215325, .hlros 4 ⟨true, 5, 0o215325⟩),
     (0o570254240754, .hrre 5 ⟨false, 0o14, 0o240754⟩),
     (0o571323264403, .hrrei 6 ⟨true, 3, 0o264403⟩),
     (0o572352310032, .hrrem 7 ⟨false, 0o12, 0o310032⟩),
     (0o573421333461, .hrres 0o10 ⟨true, 1, 0o333461⟩),
     (0o574450357110, .hlre 0o11 ⟨false, 0o10, 0o357110⟩),
     (0o575537402537, .hlrei 0o12 ⟨true, 0o17, 0o402537⟩),
     (0o576546426166, .hlrem 0o13 ⟨false, 6, 0o426166⟩),
     (0o577635451615, .hlres 0o14 ⟨true, 0o15, 0o451615⟩)] :
    List (Word × Instr)), decode p.1 = p.2 := by decide +kernel

theorem test_decode_logic1 : ∀ p ∈ ([(0o600644475244, .trn 0o15 ⟨false, 4, 0o475244⟩),
     (0o601733520673, .tln 0o16 ⟨true, 0o13, 0o520673⟩),
     (0o602742544322, .trne 0o17 ⟨false, 2, 0o544322⟩),
     (0o603071567751, .tlne 1 ⟨true, 0o11, 0o567751⟩),
     (0o604100613400, .trna 2 ⟨false, 0, 0o613400⟩),
     (0o605167637027, .tlna 3 ⟨true, 7, 0o637027⟩),
     (0o606216662456, .trnn 4 ⟨false, 0o16, 0o662456⟩),
     (0o607265706105, .tlnn 5 ⟨true, 5, 0o706105⟩),
     (0o610314731534, .tdn 6 ⟨false, 0o14, 0o731534⟩),
     (0o611363755163, .tsn 7 ⟨true, 3, 0o755163⟩),
     (0o612412000612, .tdne 0o10 ⟨false, 0o12, 0o612⟩),
     (0o613461024241, .tsne 0o11 ⟨true, 1, 0o24241⟩),
     (0o614510047670, .tdna 0o12 ⟨false, 0o10, 0o47670⟩),
     (0o615577073317, .tsna 0o13 ⟨true, 0o17, 0o73317⟩),
     (0o616606116746, .tdnn 0o14 ⟨false, 6, 0o116746⟩),
     (0o617675142375, .tsnn 0o15 ⟨true, 0o15, 0o142375⟩),
     (0o620704166024, .trz 0o16 ⟨false, 4, 0o166024⟩),
     (0o621773211453, .tlz 0o17 ⟨true, 0o13, 0o211453⟩),
     (0o622042235102, .trze 1 ⟨false, 2, 0o235102⟩),
     (0o623131260531, .tlze 2 ⟨true, 0o11, 0o260531⟩),
     (0o624140304160, .trza 3 ⟨false, 0, 0o304160⟩),
     (0o625227327607, .tlza 4 ⟨true, 7, 0o327607⟩),
     (0o626256353236, .trzn 5 ⟨false, 0o16, 0o353236⟩),
     (0o627325376665, .tlzn 6 ⟨true, 5, 0o376665⟩),
     (0o630354422314, .tdz 7 ⟨false, 0o14, 0o422314⟩),
     (0o631423445743, .tsz 0o10 ⟨true, 3, 0o445743⟩),
     (0o632452471372, .tdze 0o11 ⟨false, 0o12, 0o471372⟩),
     (0o633521515021, .tsze 0o12 ⟨true, 1, 0o515021⟩),
     (0o634550540450, .tdza 0o13 ⟨false, 0o10, 0o540450⟩),
     (0o635637564077, .tsza 0o14 ⟨true, 0o17, 0o564077⟩),
     (0o636646607526, .tdzn 0o15 ⟨false, 6, 0o607526⟩),
     (0o637735633155, .tszn 0o16 ⟨true, 0o15, 0o633155⟩)] :
    List (Word × Instr)), decode p.1 = p.2 := by decide +kernel

theorem test_decode_logic2 : ∀ p ∈ ([(0o640744656604, .trc 0o17 ⟨false, 4, 0o656604⟩),
     (0o641073702233, .tlc 1 ⟨true, 0o13, 0o702233⟩),
     (0o642102725662, .trce 2 ⟨false, 2, 0o725662⟩),
     (0o643171751311, .tlce 3 ⟨true, 0o11, 0o751311⟩),
     (0o644200774740, .trca 4 ⟨false, 0, 0o774740⟩),
     (0o645267020367, .tlca 5 ⟨true, 7, 0o20367⟩),
     (0o646316044016, .trcn 6 ⟨false, 0o16, 0o44016⟩),
     (0o647365067445, .tlcn 7 ⟨true, 5, 0o67445⟩),
     (0o650414113074, .tdc 0o10 ⟨false, 0o14, 0o113074⟩),
     (0o651463136523, .tsc 0o11 ⟨true, 3, 0o136523⟩),
     (0o652512162152, .tdce 0o12 ⟨false, 0o12, 0o162152⟩),
     (0o653561205601, .tsce 0o13 ⟨true, 1, 0o205601⟩),
     (0o654610231230, .tdca 0o14 ⟨false, 0o10, 0o231230⟩),
     (0o655677254657, .tsca 0o15 ⟨true, 0o17, 0o254657⟩),
     (0o656706300306, .tdcn 0o16 ⟨false, 6, 0o300306⟩),
     (0o657775323735, .tscn 0o17 ⟨true, 0o15, 0o323735⟩),
     (0o660044347364, .tro 1 ⟨false, 4, 0o347364⟩),
     (0o661133373013, .tlo 2 ⟨true, 0o13, 0o373013⟩),
     (0o662142416442, .troe 3 ⟨false, 2, 0o416442⟩),
     (0o663231442071, .tloe 4 ⟨true, 0o11, 0o442071⟩),
     (0o664240465520, .troa 5 ⟨false, 0, 0o465520⟩),
     (0o665327511147, .tloa 6 ⟨true, 7, 0o511147⟩),
     (0o666356534576, .tron 7 ⟨false, 0o16, 0o534576⟩),
     (0o667425560225, .tlon 0o10 ⟨true, 5, 0o560225⟩),
     (0o670454603654, .tdo 0o11 ⟨false, 0o14, 0o603654⟩),
     (0o671523627303, .tso 0o12 ⟨true, 3, 0o627303⟩),
     (0o672552652732, .tdoe 0o13 ⟨false, 0o12, 0o652732⟩),
     (0o673621676361, .tsoe 0o14 ⟨true, 1, 0o676361⟩),
     (0o674650722010, .tdoa 0o15 ⟨false, 0o10, 0o722010⟩),
     (0o675737745437, .tsoa 0o16 ⟨true, 0o17, 0o745437⟩),
     (0o676746771066, .tdon 0o17 ⟨false, 6, 0o771066⟩),
     (0o677075014515, .tson 1 ⟨true, 0o15, 0o14515⟩)] :
    List (Word × Instr)), decode p.1 = p.2 := by decide +kernel

theorem test_decode_control : ∀ p ∈ ([(0o254004040144, .jrst ⟨false, 4, 0o40144⟩),
     (0o254073063573, .portal ⟨true, 0o13, 0o63573⟩),
     (0o254102107222, .jrstf ⟨false, 2, 0o107222⟩),
     (0o254231132651, .halt ⟨true, 0o11, 0o132651⟩),
     (0o254400156300, .jrst10 ⟨false, 0, 0o156300⟩),
     (0o254527201727, .jen ⟨true, 7, 0o201727⟩),
     (0o254156225356, .jrstFn3 ⟨false, 0o16, 0o225356⟩),
     (0o254265251005, .jrstFn5 ⟨true, 5, 0o251005⟩),
     (0o254314274434, .jrstFn6 ⟨false, 0o14, 0o274434⟩),
     (0o254363320063, .jrstFn7 ⟨true, 3, 0o320063⟩),
     (0o254452343512, .jrstFn11 ⟨false, 0o12, 0o343512⟩),
     (0o254561367141, .jrstFn13 ⟨true, 1, 0o367141⟩),
     (0o254610412570, .jrstFn14 ⟨false, 0o10, 0o412570⟩),
     (0o254677436217, .jrstFn15 ⟨true, 0o17, 0o436217⟩),
     (0o254706461646, .jrstFn16 ⟨false, 6, 0o461646⟩),
     (0o254775505275, .jrstFn17 ⟨true, 0o15, 0o505275⟩),
     (0o255144530724, .jfcl 3 ⟨false, 4, 0o530724⟩),
     (0o256233554353, .xct 4 ⟨true, 0o13, 0o554353⟩),
     (0o264242600002, .jsr 5 ⟨false, 2, 0o600002⟩),
     (0o265331623431, .jsp 6 ⟨true, 0o11, 0o623431⟩),
     (0o266340647060, .jsa 7 ⟨false, 0, 0o647060⟩),
     (0o267427672507, .jra 0o10 ⟨true, 7, 0o672507⟩),
     (0o260456716136, .pushj 0o11 ⟨false, 0o16, 0o716136⟩),
     (0o263525741565, .popj 0o12 ⟨true, 5, 0o741565⟩),
     (0o261554765214, .push 0o13 ⟨false, 0o14, 0o765214⟩),
     (0o262623010643, .pop 0o14 ⟨true, 3, 0o10643⟩),
     (0o105652034272, .adjsp 0o15 ⟨false, 0o12, 0o34272⟩)] :
    List (Word × Instr)), decode p.1 = p.2 := by decide +kernel

theorem test_decode_byte : ∀ p ∈ ([(0o133021057721, .ibp ⟨true, 1, 0o57721⟩),
     (0o133750103350, .adjbp 0o17 ⟨false, 0o10, 0o103350⟩),
     (0o134077126777, .ildb 1 ⟨true, 0o17, 0o126777⟩),
     (0o135106152426, .ldb 2 ⟨false, 6, 0o152426⟩),
     (0o136175176055, .idpb 3 ⟨true, 0o15, 0o176055⟩),
     (0o137204221504, .dpb 4 ⟨false, 4, 0o221504⟩)] :
    List (Word × Instr)), decode p.1 = p.2 := by decide +kernel

theorem test_decode_uuo1 : ∀ p ∈ ([(0o000273245133, .muuo 5 ⟨true, 0o13, 0o245133⟩),
     (0o001302270562, .luuo001 6 ⟨false, 2, 0o270562⟩),
     (0o002371314211, .luuo002 7 ⟨true, 0o11, 0o314211⟩),
     (0o003400337640, .luuo003 0o10 ⟨false, 0, 0o337640⟩),
     (0o004467363267, .luuo004 0o11 ⟨true, 7, 0o363267⟩),
     (0o005516406716, .luuo005 0o12 ⟨false, 0o16, 0o406716⟩),
     (0o006565432345, .luuo006 0o13 ⟨true, 5, 0o432345⟩),
     (0o007614455774, .luuo007 0o14 ⟨false, 0o14, 0o455774⟩),
     (0o010663501423, .luuo010 0o15 ⟨true, 3, 0o501423⟩),
     (0o011712525052, .luuo011 0o16 ⟨false, 0o12, 0o525052⟩),
     (0o012761550501, .luuo012 0o17 ⟨true, 1, 0o550501⟩),
     (0o013050574130, .luuo013 1 ⟨false, 0o10, 0o574130⟩),
     (0o014137617557, .luuo014 2 ⟨true, 0o17, 0o617557⟩),
     (0o015146643206, .luuo015 3 ⟨false, 6, 0o643206⟩),
     (0o016235666635, .luuo016 4 ⟨true, 0o15, 0o666635⟩),
     (0o017244712264, .luuo017 5 ⟨false, 4, 0o712264⟩),
     (0o020333735713, .luuo020 6 ⟨true, 0o13, 0o735713⟩),
     (0o021342761342, .luuo021 7 ⟨false, 2, 0o761342⟩),
     (0o022431004771, .luuo022 0o10 ⟨true, 0o11, 0o4771⟩),
     (0o023440030420, .luuo023 0o11 ⟨false, 0, 0o30420⟩),
     (0o024527054047, .luuo024 0o12 ⟨true, 7, 0o54047⟩),
     (0o025556077476, .luuo025 0o13 ⟨false, 0o16, 0o77476⟩),
     (0o026625123125, .luuo026 0o14 ⟨true, 5, 0o123125⟩),
     (0o027654146554, .luuo027 0o15 ⟨false, 0o14, 0o146554⟩),
     (0o030723172203, .luuo030 0o16 ⟨true, 3, 0o172203⟩),
     (0o031752215632, .luuo031 0o17 ⟨false, 0o12, 0o215632⟩),
     (0o032061241261, .luuo032 1 ⟨true, 1, 0o241261⟩),
     (0o033110264710, .luuo033 2 ⟨false, 0o10, 0o264710⟩),
     (0o034177310337, .luuo034 3 ⟨true, 0o17, 0o310337⟩),
     (0o035206333766, .luuo035 4 ⟨false, 6, 0o333766⟩),
     (0o036275357415, .luuo036 5 ⟨true, 0o15, 0o357415⟩),
     (0o037304403044, .luuo037 6 ⟨false, 4, 0o403044⟩)] :
    List (Word × Instr)), decode p.1 = p.2 := by decide +kernel

theorem test_decode_uuo2 : ∀ p ∈ ([(0o040373426473, .muuo040 7 ⟨true, 0o13, 0o426473⟩),
     (0o041402452122, .muuo041 0o10 ⟨false, 2, 0o452122⟩),
     (0o042471475551, .muuo042 0o11 ⟨true, 0o11, 0o475551⟩),
     (0o043500521200, .muuo043 0o12 ⟨false, 0, 0o521200⟩),
     (0o044567544627, .muuo044 0o13 ⟨true, 7, 0o544627⟩),
     (0o045616570256, .muuo045 0o14 ⟨false, 0o16, 0o570256⟩),
     (0o046665613705, .muuo046 0o15 ⟨true, 5, 0o613705⟩),
     (0o047714637334, .muuo047 0o16 ⟨false, 0o14, 0o637334⟩),
     (0o050763662763, .muuo050 0o17 ⟨true, 3, 0o662763⟩),
     (0o051052706412, .muuo051 1 ⟨false, 0o12, 0o706412⟩),
     (0o052121732041, .muuo052 2 ⟨true, 1, 0o732041⟩),
     (0o053150755470, .muuo053 3 ⟨false, 0o10, 0o755470⟩),
     (0o054237001117, .muuo054 4 ⟨true, 0o17, 0o1117⟩),
     (0o055246024546, .muuo055 5 ⟨false, 6, 0o24546⟩),
     (0o056335050175, .muuo056 6 ⟨true, 0o15, 0o50175⟩),
     (0o057344073624, .muuo057 7 ⟨false, 4, 0o73624⟩),
     (0o060433117253, .muuo060 0o10 ⟨true, 0o13, 0o117253⟩),
     (0o061442142702, .muuo061 0o11 ⟨false, 2, 0o142702⟩),
     (0o062531166331, .muuo062 0o12 ⟨true, 0o11, 0o166331⟩),
     (0o063540211760, .muuo063 0o13 ⟨false, 0, 0o211760⟩),
     (0o064627235407, .muuo064 0o14 ⟨true, 7, 0o235407⟩),
     (0o065656261036, .muuo065 0o15 ⟨false, 0o16, 0o261036⟩),
     (0o066725304465, .muuo066 0o16 ⟨true, 5, 0o304465⟩),
     (0o067754330114, .muuo067 0o17 ⟨false, 0o14, 0o330114⟩),
     (0o070063353543, .muuo070 1 ⟨true, 3, 0o353543⟩),
     (0o071112377172, .muuo071 2 ⟨false, 0o12, 0o377172⟩),
     (0o072161422621, .muuo072 3 ⟨true, 1, 0o422621⟩),
     (0o073210446250, .muuo073 4 ⟨false, 0o10, 0o446250⟩),
     (0o074277471677, .muuo074 5 ⟨true, 0o17, 0o471677⟩),
     (0o075306515326, .muuo075 6 ⟨false, 6, 0o515326⟩),
     (0o076375540755, .muuo076 7 ⟨true, 0o15, 0o540755⟩),
     (0o077404564404, .muuo077 0o10 ⟨false, 4, 0o564404⟩)] :
    List (Word × Instr)), decode p.1 = p.2 := by decide +kernel

theorem test_decode_uuo3 : ∀ p ∈ ([(0o100473610033, .unassigned100 0o11 ⟨true, 0o13, 0o610033⟩),
     (0o101502633462, .unassigned101 0o12 ⟨false, 2, 0o633462⟩),
     (0o102571657111, .unassigned102 0o13 ⟨true, 0o11, 0o657111⟩),
     (0o103600702540, .unassigned103 0o14 ⟨false, 0, 0o702540⟩),
     (0o104667726167, .unassigned104 0o15 ⟨true, 7, 0o726167⟩),
     (0o106716751616, .unassigned106 0o16 ⟨false, 0o16, 0o751616⟩),
     (0o107765775245, .unassigned107 0o17 ⟨true, 5, 0o775245⟩),
     (0o110054020674, .unassigned110 1 ⟨false, 0o14, 0o20674⟩),
     (0o111123044323, .unassigned111 2 ⟨true, 3, 0o44323⟩),
     (0o112152067752, .unassigned112 3 ⟨false, 0o12, 0o67752⟩),
     (0o113221113401, .unassigned113 4 ⟨true, 1, 0o113401⟩),
     (0o122250137030, .unassigned122 5 ⟨false, 0o10, 0o137030⟩),
     (0o123337162457, .unassigned123 6 ⟨true, 0o17, 0o162457⟩),
     (0o126346206106, .unassigned126 7 ⟨false, 6, 0o206106⟩),
     (0o127435231535, .unassigned127 0o10 ⟨true, 0o15, 0o231535⟩),
     (0o130444255164, .unassigned130 0o11 ⟨false, 4, 0o255164⟩),
     (0o131533300613, .unassigned131 0o12 ⟨true, 0o13, 0o300613⟩),
     (0o132542324242, .unassigned132 0o13 ⟨false, 2, 0o324242⟩),
     (0o140631347671, .unassigned140 0o14 ⟨true, 0o11, 0o347671⟩),
     (0o141640373320, .unassigned141 0o15 ⟨false, 0, 0o373320⟩),
     (0o142727416747, .unassigned142 0o16 ⟨true, 7, 0o416747⟩),
     (0o143756442376, .unassigned143 0o17 ⟨false, 0o16, 0o442376⟩),
     (0o144065466025, .unassigned144 1 ⟨true, 5, 0o466025⟩),
     (0o145114511454, .unassigned145 2 ⟨false, 0o14, 0o511454⟩),
     (0o146163535103, .unassigned146 3 ⟨true, 3, 0o535103⟩),
     (0o147212560532, .unassigned147 4 ⟨false, 0o12, 0o560532⟩),
     (0o150261604161, .unassigned150 5 ⟨true, 1, 0o604161⟩),
     (0o151310627610, .unassigned151 6 ⟨false, 0o10, 0o627610⟩),
     (0o152377653237, .unassigned152 7 ⟨true, 0o17, 0o653237⟩),
     (0o153406676666, .unassigned153 0o10 ⟨false, 6, 0o676666⟩),
     (0o154475722315, .unassigned154 0o11 ⟨true, 0o15, 0o722315⟩),
     (0o155504745744, .unassigned155 0o12 ⟨false, 4, 0o745744⟩)] :
    List (Word × Instr)), decode p.1 = p.2 := by decide +kernel

theorem test_decode_uuo4 : ∀ p ∈ ([(0o156573771373, .unassigned156 0o13 ⟨true, 0o13, 0o771373⟩),
     (0o157602015022, .unassigned157 0o14 ⟨false, 2, 0o15022⟩),
     (0o160671040451, .unassigned160 0o15 ⟨true, 0o11, 0o40451⟩),
     (0o161700064100, .unassigned161 0o16 ⟨false, 0, 0o64100⟩),
     (0o162767107527, .unassigned162 0o17 ⟨true, 7, 0o107527⟩),
     (0o163056133156, .unassigned163 1 ⟨false, 0o16, 0o133156⟩),
     (0o164125156605, .unassigned164 2 ⟨true, 5, 0o156605⟩),
     (0o165154202234, .unassigned165 3 ⟨false, 0o14, 0o202234⟩),
     (0o166223225663, .unassigned166 4 ⟨true, 3, 0o225663⟩),
     (0o167252251312, .unassigned167 5 ⟨false, 0o12, 0o251312⟩),
     (0o170321274741, .unassigned170 6 ⟨true, 1, 0o274741⟩),
     (0o171350320370, .unassigned171 7 ⟨false, 0o10, 0o320370⟩),
     (0o172437344017, .unassigned172 0o10 ⟨true, 0o17, 0o344017⟩),
     (0o173446367446, .unassigned173 0o11 ⟨false, 6, 0o367446⟩),
     (0o174535413075, .unassigned174 0o12 ⟨true, 0o15, 0o413075⟩),
     (0o175544436524, .unassigned175 0o13 ⟨false, 4, 0o436524⟩),
     (0o176633462153, .unassigned176 0o14 ⟨true, 0o13, 0o462153⟩),
     (0o177642505602, .unassigned177 0o15 ⟨false, 2, 0o505602⟩),
     (0o247731531231, .unassigned247 0o16 ⟨true, 0o11, 0o531231⟩),
     (0o257740554660, .unassigned257 0o17 ⟨false, 0, 0o554660⟩)] :
    List (Word × Instr)), decode p.1 = p.2 := by decide +kernel

theorem test_decode_io : ∀ p ∈ ([(0o775427600307, .blki 0o173 ⟨true, 7, 0o600307⟩),
     (0o703056623736, .datai 6 ⟨false, 0o16, 0o623736⟩),
     (0o710525647365, .blko 0o21 ⟨true, 5, 0o647365⟩),
     (0o716154673014, .datao 0o34 ⟨false, 0o14, 0o673014⟩),
     (0o723623716443, .cono 0o47 ⟨true, 3, 0o716443⟩),
     (0o731252742072, .coni 0o62 ⟨false, 0o12, 0o742072⟩),
     (0o736721765521, .consz 0o75 ⟨true, 1, 0o765521⟩),
     (0o744350011150, .conso 0o110 ⟨false, 0o10, 0o11150⟩)] :
    List (Word × Instr)), decode p.1 = p.2 := by decide +kernel

-- One step each, from the vectors of spec/95_test_vectors.md and spec/96_test_vectors_2.md

/-- T5: MOVEI. -/
theorem test_T5 : (ends (start 0o1000 0o201062002000 [(2, 1), (3, 0o100)] [(0o2001, 0o3000005)] 0)
    [(1, 0o105), (2, 1), (3, 0o100), (0o2001, 0o3000005)] 0 0o1001) = true := by decide

/-- T18: MOVES. -/
theorem test_T18 : (ends (start 0o1000 0o203000002000 [(0, 5)] [(0o2000, 0o42)] 0)
    [(0, 5), (0o2000, 0o42)] 0 0o1001) = true := by decide

/-- T23: MOVSS. -/
theorem test_T23 : (ends (start 0o1000 0o207000002000 [] [(0o2000, 0o1000002)] 0)
    [(0o2000, 0o2000001)] 0 0o1001) = true := by decide

/-- T26: MOVN. -/
theorem test_T26 : (ends (start 0o1000 0o210240002000 [] [(0o2000, 0o400000000000)] 0)
    [(5, 0o400000000000), (0o2000, 0o400000000000)] (flagMask [.aov, .cry1, .tr1]) 0o1001) = true := by decide

/-- T32: MOVM. -/
theorem test_T32 : (ends (start 0o1000 0o214240002000 [] [(0o2000, 0o400000000000)] 0)
    [(5, 0o400000000000), (0o2000, 0o400000000000)] (flagMask [.aov, .cry1, .tr1]) 0o1001) = true := by decide

/-- T29: MOVNS. -/
theorem test_T29 : (ends (start 0o1000 0o213240002000 [] [(0o2000, 3)] 0)
    [(5, 0o777777777775), (0o2000, 0o777777777775)] 0 0o1001) = true := by decide

/-- T34: MOVMM. -/
theorem test_T34 : (ends (start 0o1000 0o216240002000 [(5, 0o777777777777)] [] 0)
    [(5, 0o777777777777), (0o2000, 1)] 0 0o1001) = true := by decide

/-- T36: EXCH. -/
theorem test_T36 : (ends (start 0o1000 0o250240002000 [(5, 0o111)] [(0o2000, 0o222)] 0)
    [(5, 0o222), (0o2000, 0o111)] 0 0o1001) = true := by decide

/-- T38: BLT. -/
theorem test_T38 : (ends (start 0o1000 0o251240003002 [(5, 0o2000003000)] [(0o2000, 1), (0o2001, 2), (0o2002, 3), (0o2003, 4)] 0)
    [(5, 0o2003003003), (0o2000, 1), (0o2001, 2), (0o2002, 3), (0o2003, 4), (0o3000, 1), (0o3001, 2), (0o3002, 3)] 0 0o1001) = true := by decide

/-- T11: DMOVE. -/
theorem test_T11 : (ends (start 0o1000 0o120200777777 [(0, 0o555)] [(0o777777, 0o666)] 0)
    [(0, 0o555), (4, 0o666), (5, 0o555), (0o777777, 0o666)] 0 0o1001) = true := by decide

/-- T46: DMOVN. -/
theorem test_T46 : (ends (start 0o1000 0o121200002000 [] [(0o2000, 0o400000000000)] 0)
    [(4, 0o400000000000), (5, 0o400000000000), (0o2000, 0o400000000000), (0o2001, 0)] (flagMask [.aov, .cry1, .tr1]) 0o1001) = true := by decide

/-- T43: DMOVEM. -/
theorem test_T43 : (ends (start 0o1000 0o124200002000 [(4, 0o333), (5, 0o444)] [] 0)
    [(4, 0o333), (5, 0o444), (0o2000, 0o333), (0o2001, 0o444)] 0 0o1001) = true := by decide

/-- T48: DMOVNM. -/
theorem test_T48 : (ends (start 0o1000 0o125200002000 [(4, 0o777777777777), (5, 0o377777777777)] [] 0)
    [(4, 0o777777777777), (5, 0o377777777777), (0o2001, 1)] 0 0o1001) = true := by decide

/-- T50: ADD. -/
theorem test_T50 : (ends (start 0o1000 0o270240002000 [(5, 0o400000000000)] [(0o2000, 0o400000000000)] 0)
    [(5, 0), (0o2000, 0o400000000000)] (flagMask [.aov, .cry0, .tr1]) 0o1001) = true := by decide

/-- T55: ADDB. -/
theorem test_T55 : (ends (start 0o1000 0o273240002000 [(5, 0o777777777777)] [(0o2000, 1)] 0)
    [(5, 0), (0o2000, 0)] (flagMask [.cry0, .cry1]) 0o1001) = true := by decide

/-- T53: ADDI. -/
theorem test_T53 : (ends (start 0o1000 0o271240777777 [(5, 1)] [] 0)
    [(5, 0o1000000)] 0 0o1001) = true := by decide

/-- T54: ADDM. -/
theorem test_T54 : (ends (start 0o1000 0o272240002000 [(5, 2)] [(0o2000, 3)] 0)
    [(5, 2), (0o2000, 5)] 0 0o1001) = true := by decide

/-- T57: SUB. -/
theorem test_T57 : (ends (start 0o1000 0o274240002000 [(5, 0)] [(0o2000, 0o400000000000)] 0)
    [(5, 0o400000000000), (0o2000, 0o400000000000)] (flagMask [.aov, .cry1, .tr1]) 0o1001) = true := by decide

/-- T62: SUBB. -/
theorem test_T62 : (ends (start 0o1000 0o277240002000 [(5, 0o10)] [(0o2000, 3)] 0)
    [(5, 5), (0o2000, 5)] (flagMask [.cry0, .cry1]) 0o1001) = true := by decide

/-- T65: IMUL. -/
theorem test_T65 : (ends (start 0o1000 0o220240002000 [(5, 0o400000000000)] [(0o2000, 0o400000000000)] 0)
    [(5, 0o400000000000), (0o2000, 0o400000000000)] (flagMask [.aov, .tr1]) 0o1001) = true := by decide

/-- T67: IMULM. -/
theorem test_T67 : (ends (start 0o1000 0o222240002000 [(5, 3)] [(0o2000, 0o777777777777)] 0)
    [(5, 3), (0o2000, 0o777777777775)] 0 0o1001) = true := by decide

/-- T68: IMULB. -/
theorem test_T68 : (ends (start 0o1000 0o223240002000 [(5, 3)] [(0o2000, 4)] 0)
    [(5, 0o14), (0o2000, 0o14)] 0 0o1001) = true := by decide

/-- T71: MUL. -/
theorem test_T71 : (ends (start 0o1000 0o224200002000 [(4, 0o400000000000)] [(0o2000, 0o400000000000)] 0)
    [(4, 0o400000000000), (5, 0o400000000000), (0o2000, 0o400000000000)] (flagMask [.aov, .tr1]) 0o1001) = true := by decide

/-- T75: MULB. -/
theorem test_T75 : (ends (start 0o1000 0o227200002000 [(4, 6)] [(0o2000, 7)] 0)
    [(4, 0), (5, 0o52), (0o2000, 0)] 0 0o1001) = true := by decide

/-- T74: MULM. -/
theorem test_T74 : (ends (start 0o1000 0o226200002000 [(4, 0o200000000000), (5, 5)] [(0o2000, 0o10)] 0)
    [(4, 0o200000000000), (5, 5), (0o2000, 4)] 0 0o1001) = true := by decide

/-- T78: IDIV. -/
theorem test_T78 : (ends (start 0o1000 0o230200002000 [(4, 0o400000000000), (5, 5)] [(0o2000, 0o777777777777)] 0)
    [(4, 0o400000000000), (5, 5), (0o2000, 0o777777777777)] (flagMask [.aov, .tr1, .ndv]) 0o1001) = true := by decide

/-- T81: IDIVM. -/
theorem test_T81 : (ends (start 0o1000 0o232200002000 [(4, 0o144), (5, 0o55)] [(0o2000, 7)] 0)
    [(4, 0o144), (5, 0o55), (0o2000, 0o16)] 0 0o1001) = true := by decide

/-- T82: IDIVB. -/
theorem test_T82 : (ends (start 0o1000 0o233200002000 [(4, 0o144)] [(0o2000, 7)] 0)
    [(4, 0o16), (5, 2), (0o2000, 0o16)] 0 0o1001) = true := by decide

/-- T80: IDIVI. -/
theorem test_T80 : (ends (start 0o1000 0o231740000012 [(0o17, 0o144)] [] 0)
    [(0o17, 0o12)] 0 0o1001) = true := by decide

/-- T85: DIV. -/
theorem test_T85 : (ends (start 0o1000 0o234200002000 [(4, 2), (5, 0)] [(0o2000, 2)] 0)
    [(4, 2), (5, 0), (0o2000, 2)] (flagMask [.aov, .tr1, .ndv]) 0o1001) = true := by decide

/-- T88: DIVB. -/
theorem test_T88 : (ends (start 0o1000 0o237200002000 [(4, 0o777777777777), (5, 0o777777777700)] [(0o2000, 0o11)] 0)
    [(4, 0o777777777771), (5, 0o777777777777), (0o2000, 0o777777777771)] 0 0o1001) = true := by decide

/-- T87: DIVM. -/
theorem test_T87 : (ends (start 0o1000 0o236200002000 [(4, 0), (5, 0o100)] [(0o2000, 0o11)] 0)
    [(4, 0), (5, 0o100), (0o2000, 7)] 0 0o1001) = true := by decide

/-- T90: DADD. -/
theorem test_T90 : (ends (start 0o1000 0o114200002000 [(4, 0o377777777777), (5, 0o377777777777)] [(0o2001, 1)] 0)
    [(4, 0o400000000000), (5, 0o400000000000), (0o2000, 0), (0o2001, 1)] (flagMask [.aov, .cry1, .tr1]) 0o1001) = true := by decide

/-- T91: DSUB. -/
theorem test_T91 : (ends (start 0o1000 0o115200002000 [(4, 0), (5, 0)] [(0o2001, 1)] 0)
    [(4, 0o777777777777), (5, 0o777777777777), (0o2000, 0), (0o2001, 1)] 0 0o1001) = true := by decide

/-- T94: DMUL. -/
theorem test_T94 : (ends (start 0o1000 0o116200002000 [(4, 0o400000000000), (5, 0)] [(0o2000, 0o400000000000)] 0)
    [(4, 0o400000000000), (5, 0o400000000000), (6, 0o400000000000), (7, 0o400000000000), (0o2000, 0o400000000000), (0o2001, 0)] (flagMask [.aov, .tr1]) 0o1001) = true := by decide

/-- T97: DDIV. -/
theorem test_T97 : (ends (start 0o1000 0o117200002000 [(4, 0), (5, 0), (6, 0), (7, 0o144)] [] 0)
    [(4, 0), (5, 0), (6, 0), (7, 0o144), (0o2000, 0), (0o2001, 0)] (flagMask [.aov, .tr1, .ndv]) 0o1001) = true := by decide

/-- T99: AND. -/
theorem test_T99 : (ends (start 0o1000 0o404240002000 [(5, 0o777000777)] [(0o2000, 0o70707070707)] 0)
    [(5, 0o707000707), (0o2000, 0o70707070707)] 0 0o1001) = true := by decide

/-- T100: ANDCA. -/
theorem test_T100 : (ends (start 0o1000 0o410240002000 [(5, 0o777000777)] [(0o2000, 0o70707070707)] 0)
    [(5, 0o70000070000), (0o2000, 0o70707070707)] 0 0o1001) = true := by decide

/-- T102: ANDCM. -/
theorem test_T102 : (ends (start 0o1000 0o420240002000 [(5, 0o777000777)] [(0o2000, 0o70707070707)] 0)
    [(5, 0o70000070), (0o2000, 0o70707070707)] 0 0o1001) = true := by decide

/-- T124: XORB. -/
theorem test_T124 : (ends (start 0o1000 0o433240002000 [(5, 0o777777000000)] [(0o2000, 0o707070707070)] 0)
    [(5, 0o70707707070), (0o2000, 0o70707707070)] 0 0o1001) = true := by decide

/-- T127: EQVI. -/
theorem test_T127 : (ends (start 0o1000 0o445240000000 [(5, 0o123456123456)] [] 0)
    [(5, 0o654321654321)] 0 0o1001) = true := by decide

/-- T126: IORM. -/
theorem test_T126 : (ends (start 0o1000 0o436240002000 [(5, 0o700000000000)] [(0o2000, 7)] 0)
    [(5, 0o700000000000), (0o2000, 0o700000000007)] 0 0o1001) = true := by decide

/-- T109: ORCA. -/
theorem test_T109 : (ends (start 0o1000 0o454240002000 [(5, 0o777000777)] [(0o2000, 0o70707070707)] 0)
    [(5, 0o777707777707), (0o2000, 0o70707070707)] 0 0o1001) = true := by decide

/-- T132: ORCBI. -/
theorem test_T132 : (ends (start 0o1000 0o471240777777 [(5, 0o777777777777)] [] 0)
    [(5, 0o777777000000)] 0 0o1001) = true := by decide

/-- T134: SETOB. -/
theorem test_T134 : (ends (start 0o1000 0o477240002000 [] [] 0)
    [(5, 0o777777777777), (0o2000, 0o777777777777)] 0 0o1001) = true := by decide

/-- T129: SETCAM. -/
theorem test_T129 : (ends (start 0o1000 0o452240002000 [(5, 0o123456123456)] [] 0)
    [(5, 0o123456123456), (0o2000, 0o654321654321)] 0 0o1001) = true := by decide

/-- T101: SETM. -/
theorem test_T101 : (ends (start 0o1000 0o414240002000 [(5, 0o777000777)] [(0o2000, 0o70707070707)] 0)
    [(5, 0o70707070707), (0o2000, 0o70707070707)] 0 0o1001) = true := by decide

/-- T137: ASH. -/
theorem test_T137 : (ends (start 0o1000 0o240240000001 [(5, 0o200000000000)] [] 0)
    [(5, 0)] (flagMask [.aov, .tr1]) 0o1001) = true := by decide

/-- T139: ASH. -/
theorem test_T139 : (ends (start 0o1000 0o240240000001 [(5, 0o500000000000)] [] 0)
    [(5, 0o600000000000)] (flagMask [.aov, .tr1]) 0o1001) = true := by decide

/-- T153: ASHC. -/
theorem test_T153 : (ends (start 0o1000 0o244200000001 [(4, 0o200000000000), (5, 0)] [] 0)
    [(4, 0), (5, 0)] (flagMask [.aov, .tr1]) 0o1001) = true := by decide

/-- T152: ASHC. -/
theorem test_T152 : (ends (start 0o1000 0o244200000044 [(4, 0), (5, 5)] [] 0)
    [(4, 0o12), (5, 0)] 0 0o1001) = true := by decide

/-- T146: ROT. -/
theorem test_T146 : (ends (start 0o1000 0o241240000006 [(5, 0o123456701234)] [] 0)
    [(5, 0o345670123412)] 0 0o1001) = true := by decide

/-- T156: ROTC. -/
theorem test_T156 : (ends (start 0o1000 0o245200000044 [(4, 0o111111111111), (5, 0o222222222222)] [] 0)
    [(4, 0o222222222222), (5, 0o111111111111)] 0 0o1001) = true := by decide

/-- T149: LSH. -/
theorem test_T149 : (ends (start 0o1000 0o242240000003 [(5, 0o700000000007)] [] 0)
    [(5, 0o70)] 0 0o1001) = true := by decide

/-- T159: LSHC. -/
theorem test_T159 : (ends (start 0o1000 0o246200777734 [(4, 0o123456123456), (5, 0o654321654321)] [] 0)
    [(4, 0), (5, 0o123456123456)] 0 0o1001) = true := by decide

/-- T168: CAIGE. -/
theorem test_T168 : (ends (start 0o1000 0o305240000000 [(5, 0o400000000000)] [] 0)
    [(5, 0o400000000000)] 0 0o1001) = true := by decide

/-- T172: CAML. -/
theorem test_T172 : (ends (start 0o1000 0o311240002000 [(5, 0o400000000000)] [(0o2000, 0o377777777777)] 0)
    [(5, 0o400000000000), (0o2000, 0o377777777777)] 0 0o1002) = true := by decide

/-- T182: JUMPLE. -/
theorem test_T182 : (ends (start 0o1000 0o323240003000 [(5, 1)] [] 0)
    [(5, 1)] 0 0o1001) = true := by decide

/-- T194: SKIPN. -/
theorem test_T194 : (ends (start 0o1000 0o336000002000 [] [] 0)
    [(0o2000, 0)] 0 0o1001) = true := by decide

/-- T201: AOJGE. -/
theorem test_T201 : (ends (start 0o1000 0o345240003000 [(5, 0o777777777776)] [] 0)
    [(5, 0o777777777777)] 0 0o1001) = true := by decide

/-- T207: AOSE. -/
theorem test_T207 : (ends (start 0o1000 0o352240002000 [] [(0o2000, 0o777777777777)] 0)
    [(0o2000, 0)] (flagMask [.cry0, .cry1]) 0o1002) = true := by decide

/-- T228: SOSG. -/
theorem test_T228 : (ends (start 0o1000 0o377240002000 [] [(0o2000, 2)] 0)
    [(5, 1), (0o2000, 1)] (flagMask [.cry0, .cry1]) 0o1002) = true := by decide

/-- T218: SOJGE. -/
theorem test_T218 : (ends (start 0o1000 0o365240003000 [(5, 1)] [] 0)
    [(5, 0)] (flagMask [.cry0, .cry1]) 0o3000) = true := by decide

/-- T231: AOBJN. -/
theorem test_T231 : (ends (start 0o1000 0o253240003000 [(5, 0o777776000010)] [] 0)
    [(5, 0o777777000011)] 0 0o3000) = true := by decide

/-- T229: AOBJP. -/
theorem test_T229 : (ends (start 0o1000 0o252240003000 [(5, 0o777776000010)] [] 0)
    [(5, 0o777777000011)] 0 0o1001) = true := by decide

/-- T234: JFFO. -/
theorem test_T234 : (ends (start 0o1000 0o243240003000 [(5, 0), (6, 0o77)] [] 0)
    [(5, 0), (6, 0)] 0 0o1001) = true := by decide

/-- T235: JFFO. -/
theorem test_T235 : (ends (start 0o1000 0o243240003000 [(5, 0o400000)] [] 0)
    [(5, 0o400000), (6, 0o22)] 0 0o3000) = true := by decide

/-- T238: HLL. -/
theorem test_T238 : (ends (start 0o1000 0o500240002000 [(5, 0o111111222222)] [(0o2000, 0o333333444444)] 0)
    [(5, 0o333333222222), (0o2000, 0o333333444444)] 0 0o1001) = true := by decide

/-- T253: HLRE. -/
theorem test_T253 : (ends (start 0o1000 0o574240002000 [(5, 0o111111222222)] [(0o2000, 0o333333444444)] 0)
    [(5, 0o333333), (0o2000, 0o333333444444)] 0 0o1001) = true := by decide

/-- T278: HLRES. -/
theorem test_T278 : (ends (start 0o1000 0o577000002000 [] [(0o2000, 0o400001000000)] 0)
    [(0o2000, 0o777777400001)] 0 0o1001) = true := by decide

/-- T262: HRROI. -/
theorem test_T262 : (ends (start 0o1000 0o561240000010 [(5, 0o111111222222)] [] 0)
    [(5, 0o777777000010)] 0 0o1001) = true := by decide

/-- T275: HRRZS. -/
theorem test_T275 : (ends (start 0o1000 0o553240002000 [(5, 0o111111222222)] [(0o2000, 0o333333444444)] 0)
    [(5, 0o444444), (0o2000, 0o444444)] 0 0o1001) = true := by decide

/-- T266: HRLM. -/
theorem test_T266 : (ends (start 0o1000 0o506240002000 [(5, 0o111111222222)] [(0o2000, 0o333333444444)] 0)
    [(5, 0o111111222222), (0o2000, 0o222222444444)] 0 0o1001) = true := by decide

/-- T270: HLLOM. -/
theorem test_T270 : (ends (start 0o1000 0o522240002000 [(5, 0o111111222222)] [(0o2000, 0o333333444444)] 0)
    [(5, 0o111111222222), (0o2000, 0o111111777777)] 0 0o1001) = true := by decide

/-- T281: TRNE. -/
theorem test_T281 : (ends (start 0o1000 0o602240000070 [(5, 0o777000707)] [] 0)
    [(5, 0o777000707)] 0 0o1002) = true := by decide

/-- T297: TLZA. -/
theorem test_T297 : (ends (start 0o1000 0o625240777777 [(5, 0o777000707)] [] 0)
    [(5, 0o707)] 0 0o1002) = true := by decide

/-- T307: TDCN. -/
theorem test_T307 : (ends (start 0o1000 0o656240002000 [(5, 0o777000707)] [(0o2000, 0o1000000)] 0)
    [(5, 0o776000707), (0o2000, 0o1000000)] 0 0o1002) = true := by decide

/-- T317: TSOE. -/
theorem test_T317 : (ends (start 0o1000 0o673240002000 [(5, 0o777000707)] [(0o2000, 0o70700000)] 0)
    [(5, 0o700777000777), (0o2000, 0o70700000)] 0 0o1002) = true := by decide

/-- T303: TRCE. -/
theorem test_T303 : (ends (start 0o1000 0o642240000070 [(5, 0o777000707)] [] 0)
    [(5, 0o777000777)] 0 0o1002) = true := by decide

/-- T325: JRST. -/
theorem test_T325 : (ends (start 0o1000 0o254100003000 [] [] (flagMask [.aov]))
    [] (flagMask [.cry0, .fov, .usr, .uio, .fxu]) 0o3000) = true := by decide

/-- T335: JFCL. -/
theorem test_T335 : (ends (start 0o1000 0o255740003000 [] [] (flagMask [.aov, .cry0, .tr1]))
    [] (flagMask [.tr1]) 0o3000) = true := by decide

/-- T342: XCT. -/
theorem test_T342 : (ends (start 0o1000 0o256000002000 [] [(0o2000, 0o256000002001), (0o2001, 0o350000002002)] 0)
    [(0o2000, 0o256000002001), (0o2001, 0o350000002002), (0o2002, 1)] 0 0o1001) = true := by decide

/-- T345: JSR. -/
theorem test_T345 : (ends (start 0o1000 0o264000003000 [] [] (flagMask [.aov, .cry1, .fpd, .afi, .tr1]))
    [(0o3000, 0o521200001001)] (flagMask [.aov, .cry1]) 0o3001) = true := by decide

/-- T347: JSP. -/
theorem test_T347 : (ends (start 0o1000 0o265240003000 [] [] (flagMask [.cry0, .usr]))
    [(5, 0o210000001001)] (flagMask [.cry0, .usr]) 0o3000) = true := by decide

/-- T348: JSA. -/
theorem test_T348 : (ends (start 0o1000 0o266240003000 [(5, 0o123)] [] (flagMask [.aov]))
    [(5, 0o3000001001), (0o3000, 0o123)] (flagMask [.aov]) 0o3001) = true := by decide

/-- T349: JRA. -/
theorem test_T349 : (ends (start 0o1000 0o267240004000 [(5, 0o3000001001)] [(0o3000, 0o123)] 0)
    [(5, 0o123), (0o3000, 0o123)] 0 0o4000) = true := by decide

/-- T351: PUSHJ. -/
theorem test_T351 : (ends (start 0o1000 0o260740003000 [(0o17, 0o777777002777)] [] 0)
    [(0o17, 0o3000), (0o3000, 0o1001)] (flagMask [.tr2]) 0o3000) = true := by decide

/-- T353: POPJ. -/
theorem test_T353 : (ends (start 0o1000 0o263740000000 [(0o17, 0o3000)] [(0o3000, 0o4321)] 0)
    [(0o17, 0o777777002777), (0o3000, 0o4321)] (flagMask [.tr2]) 0o4321) = true := by decide

/-- T355: PUSH. -/
theorem test_T355 : (ends (start 0o1000 0o261740002000 [(0o17, 0o777777002777)] [(0o2000, 0o55)] 0)
    [(0o17, 0o3000), (0o2000, 0o55), (0o3000, 0o55)] (flagMask [.tr2]) 0o1001) = true := by decide

/-- T358: POP. -/
theorem test_T358 : (ends (start 0o1000 0o262740002000 [(0o17, 0o3000)] [(0o3000, 0o66)] 0)
    [(0o17, 0o777777002777), (0o2000, 0o66), (0o3000, 0o66)] (flagMask [.tr2]) 0o1001) = true := by decide

/-- T362: ADJSP. -/
theorem test_T362 : (ends (start 0o1000 0o105740000010 [(0o17, 0o777775003000)] [] 0)
    [(0o17, 0o5003010)] (flagMask [.tr2]) 0o1001) = true := by decide

/-- T363: ADJSP. -/
theorem test_T363 : (ends (start 0o1000 0o105740777770 [(0o17, 0o3003000)] [] 0)
    [(0o17, 0o777773002770)] (flagMask [.tr2]) 0o1001) = true := by decide

/-- T371: LDB. -/
theorem test_T371 : (ends (start 0o1000 0o135200002000 [(2, 1)] [(0o2000, 0o602003000), (0o3000, 0o406050342212), (0o3001, 0o123456701234)] 0)
    [(2, 1), (4, 0o34), (0o2000, 0o602003000), (0o3000, 0o406050342212), (0o3001, 0o123456701234)] 0 0o1001) = true := by decide

/-- T378: DPB. -/
theorem test_T378 : (ends (start 0o1000 0o137200002000 [(4, 0o7725)] [(0o2000, 0o140600003000), (0o3000, 0o777777777777)] 0)
    [(4, 0o7725), (0o2000, 0o140600003000), (0o3000, 0o777777257777)] 0 0o1001) = true := by decide

/-- T392: ILDB. -/
theorem test_T392 : (ends (start 0o1000 0o134200002000 [] [(0o2000, 0o360600003000), (0o3000, 0o406050342212), (0o3001, 0o123456701234)] (flagMask [.fpd]))
    [(4, 0o40), (0o2000, 0o360600003000), (0o3000, 0o406050342212), (0o3001, 0o123456701234)] 0 0o1001) = true := by decide

/-- T393: IDPB. -/
theorem test_T393 : (ends (start 0o1000 0o136200002000 [(4, 0o101)] [(0o2000, 0o440700003000)] 0)
    [(4, 0o101), (0o2000, 0o350700003000), (0o3000, 0o404000000000)] 0 0o1001) = true := by decide

/-- T389: IBP. -/
theorem test_T389 : (ends (start 0o1000 0o133000002000 [] [(0o2000, 0o41040000000), (0o2001, 0o3000)] 0)
    [(0o2000, 0o341040000000), (0o2001, 0o3001)] 0 0o1001) = true := by decide

/-- T400: ADJBP. -/
theorem test_T400 : (ends (start 0o1000 0o133200002000 [(4, 1)] [(0o2000, 0o4500003000)] 0)
    [(4, 1), (0o2000, 0o4500003000)] (flagMask [.aov, .tr1, .ndv]) 0o1001) = true := by decide

/-- T395: ADJBP. -/
theorem test_T395 : (ends (start 0o1000 0o133200002000 [(4, 3)] [(0o2000, 0o440700003000)] 0)
    [(4, 0o170700003000), (0o2000, 0o440700003000)] 0 0o1001) = true := by decide

/-- T407: MUUO. -/
theorem test_T407 : (ends (start 0o1000 0o40000000005 [] [(0o10436, 0o3000)] (flagMask [.usr, .pub]))
    [(0o10424, 0o40000000005), (0o10425, 0o12000001001), (0o10436, 0o3000)] 0 0o3000) = true := by decide

/-- T403: LUUO. -/
theorem test_T403 : (ends (start 0o1000 0o37760002000 [] [(0o41, 0o201040000007), (0o2000, 0o3000)] 0)
    [(1, 7), (0o40, 0o37740003000), (0o41, 0o201040000007), (0o2000, 0o3000)] 0 0o1001) = true := by decide

/-- T408: opcode with no handler. -/
theorem test_T408 : (ends (start 0o1000 0o100000000000 [] [(0o10430, 0o3000)] 0)
    [(0o10424, 0o100000000000), (0o10425, 0o1001), (0o10430, 0o3000)] 0 0o3000) = true := by decide

/-- T430: CONO. -/
theorem test_T430 : (ends (start 0o1000 0o700600002377 [] [(0o10434, 0o3000)] (flagMask [.usr]))
    [(0o10424, 0o700600002377), (0o10425, 0o10000001001), (0o10434, 0o3000)] 0 0o3000) = true := by decide

/-- T426: CONO. -/
theorem test_T426 : (ends (start 0o1000 0o700600002377 [] [] 0)
    [] 0 0o1001
    && piAfter (start 0o1000 0o700600002377 [] [] 0) == some ⟨true, 0o177, 0, 0, none⟩) = true := by decide

/-- T427: CONI. -/
theorem test_T427 : (ends (withPi ⟨true, 0o163, 0o20, 4, some .l3⟩ (start 0o1000 0o700640002000 [] [] 0))
    [(0o2000, 0o4010363)] 0 0o1001) = true := by decide

/-- T424: CONSZ. -/
theorem test_T424 : (ends (start 0o1000 0o737700777777 [] [] 0)
    [] 0 0o1001) = true := by decide

/-- T423: CONSO. -/
theorem test_T423 : (ends (start 0o1000 0o737740777777 [] [] 0)
    [] 0 0o1001) = true := by decide

-- Witnesses: states and operands that meet the hypotheses of the statements

/-- The operand address of the witnesses, E = 2000 with no index and no indirection. -/
def at2000 : AddrPart := ⟨false, 0, 0o2000⟩

/-- AC5 = 7, C(2000) = 100. -/
def plain : State := start 0o1000 0o200240002000 [(5, 7)] [(0o2000, 0o100)] 0

/-- AC5 = C(2000) = 400000,,0, the most negative word. -/
def negative : State := start 0o1000 0o200240002000 [(5, 0o400000000000)] [(0o2000, 0o400000000000)] 0

/-- `plain` with a memory of only 2000 words, so that address 2000 does not exist. -/
def short : State := { plain with params := { plain.params with memWords := 0o2000 } }

/-- `plain` in user mode, without UIO. -/
def user : State := { plain with flags := flagMask [.usr] }

/-- A device with every capability, requesting on level 3, and one that implements nothing. -/
def devices : List Device := [⟨0o20, 0, false, 0⟩, ⟨0o24, 3, true, 0o377⟩]

/-- `plain` with the two devices, the interrupt system on and every level enabled. -/
def attached : State := { plain with devices := devices, pi := ⟨true, 0o177, 0, 0, none⟩ }

theorem plain_operand : plain.effective at2000 = .ok 0o2000 ∧ plain.present (plain.sec 0o2000) = true ∧
    plain.present (plain.sec 0o2001) = true := by decide

theorem negative_operand : negative.effective at2000 = .ok 0o2000 ∧ negative.present (negative.sec 0o2000) = true ∧
    negative.present (negative.sec 0o2001) = true := by decide

theorem witness_DecodeInvertsEncode : Instr.wellFormed (.adjbp 0o17 ⟨true, 0o17, 0o777777⟩) = true := by decide

theorem witness_StepRunsDecodedInstruction :
    plain.running = true ∧ ¬ ((plain.flag .tr1 = true ∨ plain.flag .tr2 = true) ∧ plain.pagingEn = true) ∧
    plain.piScan = none ∧ plain.present plain.pc = true ∧ decode (plain.peek plain.pc) = .move 5 at2000 ∧
    ∃ t, exec (.move 5 at2000) { plain with exceptionCycle := none, redispatch := none } = .next t ∧
      t.redispatch = none :=
  ⟨by decide, by decide, by decide, by decide, by decide, _, rfl, rfl⟩

theorem witness_StepRunsDecodedInstruction_fault :
    short.running = true ∧ ¬ ((short.flag .tr1 = true ∨ short.flag .tr2 = true) ∧ short.pagingEn = true) ∧
    short.piScan = none ∧ short.present short.pc = true ∧ decode (short.peek short.pc) = .move 5 at2000 ∧
    exec (.move 5 at2000) { short with exceptionCycle := none, redispatch := none }
      = .fault (.nonexistentMemory 0o2000) :=
  ⟨by decide, by decide, by decide, by decide, by decide, rfl⟩

/-- XCT 2000, and at 2000 the given word. -/
def executing (w : Word) : State := start 0o1000 0o256000002000 [] [(0o2000, w)] 0

/-- One re-dispatch, to MOVEI 5,7, which goes on. -/
theorem witness_StepFollowsRedispatches : ∃ a b t v, (executing 0o201240000007).running = true ∧
    (executing 0o201240000007).boundary = (a, b) ∧ b.present a = true ∧ Redispatches b (b.peek a) 1 t v ∧
    1 ≤ (executing 0o201240000007).params.maxXct ∧ ∃ u, exec (decode v) t = .next u ∧ u.redispatch = none :=
  ⟨_, _, _, _, by decide, rfl, by decide, .next _ _ _ _ _ _ _ rfl rfl (.here _ _), by decide, _, rfl, rfl⟩

/-- One re-dispatch, to MOVE 5,4000 in a memory of 4000 words, which faults. -/
theorem witness_StepFollowsRedispatches_fault : ∃ s : State, ∃ a b t v, s.running = true ∧ s.boundary = (a, b) ∧
    b.present a = true ∧ Redispatches b (b.peek a) 1 t v ∧ 1 ≤ s.params.maxXct ∧
    exec (decode v) t = .fault (.nonexistentMemory 0o4000) :=
  ⟨{ executing 0o200240004000 with params := { Params.atReset with memWords := 0o4000 } }, _, _, _, _, by decide, rfl,
    by decide, .next _ _ _ _ _ _ _ rfl rfl (.here _ _), by decide, rfl⟩

/-- With `MAX_XCT` = 0 the first XCT is one too many. -/
theorem witness_StepFollowsRedispatches_loop : ∃ s : State, ∃ a b, s.running = true ∧ s.boundary = (a, b) ∧
    b.present a = true ∧ Redispatches b (b.peek a) 0 b (b.peek a) ∧ 0 = s.params.maxXct ∧
    ∃ u w, exec (decode (b.peek a)) b = .next u ∧ u.redispatch = some w :=
  ⟨{ executing 0 with params := { Params.atReset with maxXct := 0 } }, _, _, by decide, rfl, by decide, .here _ _, rfl,
    _, _, rfl, rfl⟩

theorem witness_TrapDivertsFetch : ∀ f ∈ [Flag.tr1, .tr2], ∃ s : State,
    (s.flag .tr1 = true ∨ s.flag .tr2 = true) ∧ s.pagingEn = true ∧ s.flag f = true := by
  intro f hf
  refine ⟨{ plain with flags := flagMask [f], pagingEn := true }, ?_⟩
  revert f
  decide

theorem witness_InterruptDivertsFetch :
    registryFrom 0 plain.devices = true ∧
    ¬ ((plain.flag .tr1 = true ∨ plain.flag .tr2 = true) ∧ plain.pagingEn = true) ∧ plain.piScan = none := by decide

theorem witness_InterruptDivertsFetch_program : ∃ s : State, registryFrom 0 s.devices = true ∧
    ¬ ((s.flag .tr1 = true ∨ s.flag .tr2 = true) ∧ s.pagingEn = true) ∧ s.piScan = some .l1 ∧
    ∀ d ∈ s.devices, ¬ (d.pending = true ∧ d.level.toNat = Level.toNat .l1) :=
  ⟨{ attached with pi := ⟨true, 0o177, 0, 0o100, none⟩ }, by decide⟩

theorem witness_InterruptDivertsFetch_device :
    registryFrom 0 attached.devices = true ∧
    ¬ ((attached.flag .tr1 = true ∨ attached.flag .tr2 = true) ∧ attached.pagingEn = true) ∧
    attached.piScan = some .l3 ∧ ∃ d ∈ attached.devices, d.pending = true ∧ d.level.toNat = Level.toNat .l3 ∧
      ∀ d' ∈ attached.devices, d'.pending = true → d'.level.toNat = Level.toNat .l3 → d.id.toNat ≤ d'.id.toNat := by
  decide

theorem witness_ReturnAddressOfCycle : plain.exceptionCycle = none ∧ ∃ s : State, ∃ k p,
    s.exceptionCycle = some ⟨k, p⟩ := ⟨rfl, { plain with exceptionCycle := some ⟨.trap, 0o777⟩ }, _, _, rfl⟩

theorem witness_CompletedCycleIsCounted : State.reset.running = false ∧ plain.running = true ∧
    ∃ t, step plain = .next t := ⟨rfl, by decide, _, rfl⟩

theorem witness_StepKeepsInvariant : Inv plain ∧ ∃ t, step plain = .next t :=
  ⟨⟨by decide, by decide, by decide, rfl, rfl⟩, _, rfl⟩

theorem witness_ModeChangesOnlyByTheseEvents : ∃ t, exec (.jrstf at2000) plain = .next t := ⟨_, rfl⟩

theorem witness_UserModeCannotReachIo : user.ioLegal = false ∧ ∃ t, exec (.halt at2000) user = .next t :=
  ⟨by decide, _, rfl⟩

theorem witness_StepNeverWrites : (∃ t, step plain = .next t) ∧ (7 : BitVec 3) ≠ plain.acblk := ⟨⟨_, rfl⟩, by decide⟩

theorem witness_OnlyHaltChangesRunning : ∃ t, exec (.halt at2000) plain = .next t ∧ t.running ≠ plain.running :=
  ⟨_, rfl, by decide⟩

theorem witness_DeviceInterfaceKeepsTheRest : ∃ d ∈ attached.devices, d.id ≠ 0o24 := by decide

theorem witness_ResolverFollowsChain : at2000.index = 0 ∧ (⟨true, 0o17, 0⟩ : AddrPart).index ≠ 0 := by decide

theorem witness_WrittenWordReadsBack : plain.present 0 = true ∧ (0 : VAddr) = acAddr 0 ∧ plain.present 16 = true ∧
    16 ≤ (16 : VAddr).toNat := by decide

theorem witness_NonexistentMemoryFaults :
    16 ≤ (0o2000 : VAddr).toNat ∧ short.params.memWords ≤ (0o2000 : VAddr).toNat ∧
    short.effective at2000 = .ok 0o2000 ∧ short.sec 0o2000 = 0o2000 ∧
    ∃ b, ({ short with pc := 0o2000 } : State).running = true ∧
      ({ short with pc := 0o2000 } : State).boundary = (0o2000, b) :=
  ⟨by decide, by decide, by decide, by decide, _, by decide, rfl⟩

theorem witness_PackedWordsRoundTrip :
    (∀ v ∈ [(-(2 ^ 70) : Int), 2 ^ 70 - 1], -(2 ^ 70) ≤ v ∧ v < 2 ^ 70) ∧
    ∀ v ∈ [(-(2 ^ 140) : Int), 2 ^ 140 - 1], -(2 ^ 140) ≤ v ∧ v < 2 ^ 140 := by decide

theorem witness_DivisionLaw : divide (-7) 2 35 = some (-3, -1) ∧ (-3 : Int) * 2 + -1 = -7 ∧
    (-1 : Int).natAbs < (2 : Int).natAbs ∧ (-1 : Int).sign = (-7 : Int).sign := by decide

theorem witness_MovesToAccumulator : (plain.effective at2000 = .ok 0o2000 ∧
    plain.present (plain.sec 0o2000) = true ∧ 0 ≤ (plain.peek (plain.sec 0o2000)).toInt) ∧
    negative.effective at2000 = .ok 0o2000 ∧ negative.present (negative.sec 0o2000) = true ∧
    (negative.peek (negative.sec 0o2000)).toInt < 0 := by decide

theorem witness_MovesToMemory : (plain.effective at2000 = .ok 0o2000 ∧ plain.present (plain.sec 0o2000) = true ∧
    0 ≤ (plain.ac 5).toInt ∧ 0 ≤ (plain.peek (plain.sec 0o2000)).toInt) ∧
    negative.effective at2000 = .ok 0o2000 ∧ negative.present (negative.sec 0o2000) = true ∧
    (negative.ac 5).toInt < 0 ∧ (negative.peek (negative.sec 0o2000)).toInt < 0 := by decide

/-- Three words from 2000 to 3000, and the one word when E lies below the first destination address. -/
theorem witness_ExchangeAndBlockTransferComplete :
    ∀ x ∈ [((0o3002 : Offset), 3), (0o2777, 1)], ∃ s : State, s.effective ⟨false, 0, x.1⟩ = .ok x.1 ∧
      s.present (s.sec x.1) = true ∧ (0o2000 : Offset) = lh (s.ac 5) ∧ (0o3000 : Offset) = rh (s.ac 5) ∧
      x.2 = x.1.toNat - (0o3000 : Offset).toNat + 1 ∧
      ∀ k < x.2, s.present (s.sec (0o2000 + BitVec.ofNat 18 k)) = true ∧
        s.present (s.sec (0o3000 + BitVec.ofNat 18 k)) = true := by
  intro x hx
  refine ⟨plain.setAc 5 0o002000003000, ?_⟩
  revert x
  decide

theorem witness_DoubleMovesCompleteSo : plain.effective at2000 = .ok 0o2000 ∧
    plain.present (plain.sec 0o2000) = true ∧ plain.present (plain.sec (0o2000 + 1)) = true := by decide

theorem witness_AddAndSubtractComplete : plain.effective at2000 = .ok 0o2000 ∧
    plain.present (plain.sec 0o2000) = true := by decide

theorem witness_MultiplyCompletes : (plain.effective at2000 = .ok 0o2000 ∧
    plain.present (plain.sec 0o2000) = true ∧
    ¬ (plain.ac 5 = 0o400000000000 ∧ plain.peek (plain.sec 0o2000) = 0o400000000000)) ∧
    negative.effective at2000 = .ok 0o2000 ∧ negative.present (negative.sec 0o2000) = true ∧
    negative.ac 5 = 0o400000000000 ∧ negative.peek (negative.sec 0o2000) = 0o400000000000 := by decide

/-- 7 and 7 2^35 divided by E = 2000 and by C(2000) = 100. -/
theorem witness_DivideCompletes : plain.effective at2000 = .ok 0o2000 ∧ plain.present (plain.sec 0o2000) = true ∧
    (plain.ac 5).toInt = 7 ∧ unpack72 (plain.ac 5) (plain.ac (5 + 1)) = 7 * 2 ^ 35 ∧
    (∀ d ∈ [((0o2000 : Offset).toNat : Int), (plain.peek (plain.sec 0o2000)).toInt], d ≠ 0 ∧
      (7 : Int).natAbs < d.natAbs * 2 ^ 35 ∧ (7 * 2 ^ 35 : Int).natAbs < d.natAbs * 2 ^ 35) := by decide

/-- A divisor of 0, as E = 0 and as C(3000); and -2^35 divided by 1, as E = 1. -/
theorem witness_NoDivideSetsFlagsOnly :
    (plain.effective ⟨false, 0, 0⟩ = .ok 0 ∧ plain.effective ⟨false, 0, 0o3000⟩ = .ok 0o3000 ∧
      plain.present (plain.sec 0o3000) = true ∧ plain.present (plain.sec (0o3000 + 1)) = true ∧
      (plain.peek (plain.sec 0o3000)).toInt = 0 ∧
      unpack72 (plain.peek (plain.sec 0o3000)) (plain.peek (plain.sec (0o3000 + 1))) = 0) ∧
    negative.effective ⟨false, 0, 1⟩ = .ok 1 ∧
      ((1 : Offset).toNat : Int).natAbs * 2 ^ 35 ≤ (negative.ac 5).toInt.natAbs := by decide +kernel

theorem witness_DoubleArithmeticCompletes : plain.effective at2000 = .ok 0o2000 ∧
    plain.present (plain.sec 0o2000) = true ∧ plain.present (plain.sec (0o2000 + 1)) = true ∧
    unpack72 (plain.peek (plain.sec 0o2000)) (plain.peek (plain.sec (0o2000 + 1))) ≠ 0 ∧
    (unpack144 (plain.ac 5) (plain.ac (5 + 1)) (plain.ac (5 + 2)) (plain.ac (5 + 3))).natAbs
      < (unpack72 (plain.peek (plain.sec 0o2000)) (plain.peek (plain.sec (0o2000 + 1)))).natAbs * 2 ^ 70 := by decide +kernel

/-- AND of 7 with E = 2000 and with C(2000) = 100. -/
theorem witness_BooleanFamilyByTruthTable : (1, ⟨.and, .andi, .andm, .andb⟩) ∈ booleanRows ∧
    plain.effective at2000 = .ok 0o2000 ∧ plain.present (plain.sec 0o2000) = true ∧
    (∀ k < 36, (0 : Word).getLsbD k = truthBit 1 ((plain.ac 5).getLsbD k) ((0o2000 : Word).getLsbD k)) ∧
    ∀ k < 36, (0 : Word).getLsbD k
      = truthBit 1 ((plain.ac 5).getLsbD k) ((plain.peek (plain.sec 0o2000)).getLsbD k) :=
  ⟨by simp [booleanRows], by decide, by decide, by decide, by decide⟩

/-- Counts 0 and 36; 1 and 131071; -1 and -131072; and the ASH result of 7 shifted left by 1. -/
theorem witness_SingleShiftsComplete :
    (plain.effective ⟨false, 0, 0⟩ = .ok 0 ∧ plain.effective ⟨false, 0, 36⟩ = .ok 36 ∧ (0 : Offset).toInt.natAbs % 36 = 0 ∧
      (36 : Offset).toInt.natAbs % 36 = 0) ∧
    (plain.effective ⟨false, 0, 1⟩ = .ok 1 ∧ (1 : Offset).toInt.natAbs % 36 ≠ 0 ∧ 0 < (1 : Offset).toInt) ∧
    (plain.effective ⟨false, 0, 0o377777⟩ = .ok 0o377777 ∧ (0o377777 : Offset).toInt.natAbs % 36 ≠ 0 ∧
      0 < (0o377777 : Offset).toInt) ∧
    (plain.effective ⟨false, 0, 0o777777⟩ = .ok 0o777777 ∧ (0o777777 : Offset).toInt.natAbs % 36 ≠ 0 ∧
      (0o777777 : Offset).toInt < 0) ∧
    (plain.effective ⟨false, 0, 0o400000⟩ = .ok 0o400000 ∧ (0o400000 : Offset).toInt.natAbs % 36 ≠ 0 ∧
      (0o400000 : Offset).toInt < 0) ∧
    (0o16 : Word).msb = (plain.ac 5).msb ∧ (0o16 : Word).toNat % 2 ^ 35 = (plain.ac 5).toNat * 2 ^ 1 % 2 ^ 35 :=
  ⟨by decide, by decide, by decide, by decide, by decide, by decide, by decide⟩

/-- Counts 0 and 72; 1 and 131071; -1 and -131072; and the ASHC result of (7, 0) shifted left by 1. -/
theorem witness_PairShiftsComplete :
    (plain.effective ⟨false, 0, 0⟩ = .ok 0 ∧ plain.effective ⟨false, 0, 72⟩ = .ok 72 ∧ (0 : Offset).toInt.natAbs % 72 = 0 ∧
      (72 : Offset).toInt.natAbs % 72 = 0) ∧
    (plain.effective ⟨false, 0, 1⟩ = .ok 1 ∧ (1 : Offset).toInt.natAbs % 72 ≠ 0 ∧ 0 < (1 : Offset).toInt) ∧
    (plain.effective ⟨false, 0, 0o377777⟩ = .ok 0o377777 ∧ (0o377777 : Offset).toInt.natAbs % 72 ≠ 0 ∧
      0 < (0o377777 : Offset).toInt) ∧
    (plain.effective ⟨false, 0, 0o777777⟩ = .ok 0o777777 ∧ (0o777777 : Offset).toInt.natAbs % 72 ≠ 0 ∧
      (0o777777 : Offset).toInt < 0) ∧
    (plain.effective ⟨false, 0, 0o400000⟩ = .ok 0o400000 ∧ (0o400000 : Offset).toInt.natAbs % 72 ≠ 0 ∧
      (0o400000 : Offset).toInt < 0) ∧
    (0o16 : Word).msb = (plain.ac 5).msb ∧ (0 : Word).msb = (plain.ac 5).msb ∧
    unpack72 0o16 0 % 2 ^ 70 = unpack72 (plain.ac 5) (plain.ac (5 + 1)) * 2 ^ 1 % 2 ^ 70 :=
  ⟨by decide, by decide, by decide, by decide, by decide, by decide, by decide, by decide⟩

/-- HLLI: the left half of 0,,E with the right half of AC5. -/
theorem witness_HalfWordFamilyCompletes : (⟨false, false, .asIs, ⟨.hll, .hlli, .hllm, .hlls⟩⟩ : HalfRow) ∈ halfRows ∧
    plain.effective at2000 = .ok 0o2000 ∧ plain.present (plain.sec 0o2000) = true ∧
    (0 : Half) = halfOf (false != false) (0o2000 : Word) ∧ halfOf false (7 : Word) = (0 : Half) ∧
    halfOf (!false) (7 : Word) = halfOf (!false) (plain.ac 5) :=
  ⟨by simp [halfRows], by decide, by decide, by decide, by decide, by decide⟩

/-- TRZE: no masked bit is 1, so nothing changes and it skips. -/
theorem witness_TestFamilyCompletes : (⟨.zero, .e, .trze, .tlze, .tdze, .tsze⟩ : TestRow) ∈ testRows ∧
    plain.effective at2000 = .ok 0o2000 ∧ plain.present (plain.sec 0o2000) = true ∧
    testSkips .e (plain.ac 5) 0o2000 = true ∧
    ∀ k < 36, (7 : Word).getLsbD k = if (0o2000 : Word).getLsbD k then false else (plain.ac 5).getLsbD k :=
  ⟨by simp [testRows], by decide, by decide, by decide, by decide⟩

theorem witness_ComparesSkipOnCondition : (∃ row ∈ condRows, row.code = 0) ∧
    plain.effective at2000 = .ok 0o2000 ∧ plain.present (plain.sec 0o2000) = true :=
  ⟨⟨_, by simp only [condRows]; exact List.mem_cons_self, rfl⟩, by decide, by decide⟩

theorem witness_JumpsAndSkipsOnCondition : (∃ row ∈ condRows, row.code = 0) ∧
    plain.effective at2000 = .ok 0o2000 ∧ plain.present (plain.sec 0o2000) = true := witness_ComparesSkipOnCondition

theorem witness_IncrementsTestTheResult : (∃ row ∈ condRows, row.code = 0) ∧
    plain.effective at2000 = .ok 0o2000 ∧ plain.present (plain.sec 0o2000) = true := witness_ComparesSkipOnCondition

/-- The accumulator 0; the first one at bit 0 and at bit 35. -/
theorem witness_LoopJumpsComplete : plain.effective at2000 = .ok 0o2000 ∧ plain.ac 6 = 0 ∧
    (negative.effective at2000 = .ok 0o2000 ∧ (negative.ac 5).getMsbD 0 = true ∧
      ∀ k < 0, (negative.ac 5).getMsbD k = false) ∧
    ∃ s : State, s.effective at2000 = .ok 0o2000 ∧ (s.ac 5).getMsbD 35 = true ∧
      ∀ k < 35, (s.ac 5).getMsbD k = false :=
  ⟨by decide, by decide, by decide, plain.setAc 5 1, by decide⟩

theorem witness_UnprivilegedJumpsComplete : plain.effective at2000 = .ok 0o2000 ∧
    plain.resolve at2000 (encode (.jrstf at2000)) = .ok (0o2000, encode (.jrstf at2000)) := by decide

theorem witness_PrivilegedJumpsComplete : plain.flag .usr = false ∧ plain.effective at2000 = .ok 0o2000 ∧
    plain.resolve at2000 (encode (.jen at2000)) = .ok (0o2000, encode (.jen at2000)) ∧ plain.pi.current = none ∧
    ∃ s : State, s.flag .uio = true ∧ s.effective at2000 = .ok 0o2000 ∧ s.pi.current ≠ none :=
  ⟨by decide, by decide, by decide, by decide,
    { plain with flags := flagMask [.usr, .uio], pi := ⟨true, 0o177, 0o20, 0, some .l3⟩ }, by decide⟩

theorem user_muuoPossible : MuuoPossible user := ⟨by decide, by decide, by decide⟩

theorem witness_PrivilegedTakeMonitorCall : user.flag .usr = true ∧ user.flag .uio = false ∧
    user.effective at2000 = .ok 0o2000 ∧ MuuoPossible user ∧ ∃ row ∈ ioRows, row.code = 0 :=
  ⟨by decide, by decide, by decide, user_muuoPossible, _, by simp only [ioRows]; exact List.mem_cons_self, rfl⟩

theorem witness_ExecuteAndLocalCallRedispatch : plain.effective at2000 = .ok 0o2000 ∧
    plain.present (plain.sec 0o2000) = true ∧ plain.present (plain.sec 0o40) = true ∧
    plain.present (plain.sec 0o41) = true ∧ (0o001, .luuo001) ∈ localCalls :=
  ⟨by decide, by decide, by decide, by decide, by simp [localCalls]⟩

theorem witness_SubroutineCallsComplete : plain.effective at2000 = .ok 0o2000 ∧
    plain.present (plain.sec 0o2000) = true ∧ plain.present (plain.sec (lh (plain.ac 5))) = true := by decide

/-- A stack pointer 777777,,3000, whose count reaches 0 on a push. -/
theorem witness_StackInstructionsComplete : ∃ s : State, ∃ up down : Word, s.effective at2000 = .ok 0o2000 ∧
    up = (lh (s.ac 5) + 1) ++ (rh (s.ac 5) + 1) ∧ down = (lh (s.ac 5) - 1) ++ (rh (s.ac 5) - 1) ∧ lh up = 0 ∧
    s.present (s.sec (rh up)) = true ∧ s.present (s.sec 0o2000) = true ∧ s.present (s.sec (rh (s.ac 5))) = true :=
  ⟨plain.setAc 5 0o777777003000, 0o000000003001, 0o777776002777, by decide⟩

/-- `plain` with a byte pointer at 2000 and, after it, a word for the two-word form. -/
def pointing (w w2 : Word) : State := start 0o1000 0o134240002000 [(5, 7)] [(0o2000, w), (0o2001, w2)] 0

/-- The code of the pointer `w` at 2000 is above 36, and the pointer exists. -/
abbrev Coded (w : Word) : Prop := (pointing w 0).present 0o2000 = true ∧
  36 < (((pointing w 0).peek ((pointing w 0).sec 0o2000)).extractLsb' 30 6).toNat

/-- `w` at 2000 is a one-word local pointer whose address resolves to 3000. -/
abbrev OneWord (w : Word) : Prop := (pointing w 0).peek ((pointing w 0).sec 0o2000) = w ∧
  (w.extractLsb' 30 6).toNat ≤ 36 ∧ w.getMsbD 12 = false ∧
  (pointing w 0).resolve (AddrPart.ofWord w) w = .ok (0o3000, w)

/-- `w` at 2000 is the first word of a two-word pointer, whose second word is 0 where its address resolves. -/
abbrev TwoWords (w : Word) : Prop := (pointing w 0o3000).present 0o2001 = true ∧
  (w.extractLsb' 30 6).toNat ≤ 36 ∧ w.getMsbD 12 = true ∧ (AddrPart.ofWord w).index = 0 ∧
  (pointing w 0o3000).present 0o3000 = true ∧
  (pointing w 0o3000).resolve (AddrPart.ofWord ((pointing w 0o3000).peek 0o3000))
    ((pointing w 0o3000).peek 0o3000) = .ok (0, (pointing w 0o3000).peek 0o3000)

/-- The pointer codes 077, 045 and 076; a one-word local pointer with position 36 (044) and with 0. -/
theorem witness_BytePointerResolves : Coded 0o770000003000 ∧ Coded 0o450000003000 ∧ Coded 0o760000003000 ∧
    OneWord 0o440700003000 ∧ OneWord 0o000700003000 ∧ TwoWords 0o440740000000 ∧ TwoWords 0o440760000000 :=
  ⟨by decide, by decide, by decide, by decide, by decide, by decide, by decide⟩

/-- A 7-bit byte at position 1 of the word 0 at 3000: loading it gives 0, depositing 7 gives 16. -/
theorem witness_ByteLoadsAndDepositsComplete : ∃ s u : State, s.effective at2000 = .ok 0o2000 ∧ u = s ∧
    s.flag .fpd = true ∧ u.getPSA 0o2000 = .ok (1, 7, 0o3000) ∧ u.present 0o3000 = true ∧
    (∀ k < 36, (0 : Word).getLsbD k = (decide (k < 7) && (u.peek 0o3000).getLsbD (1 + k))) ∧
    ∀ k < 36, (0o16 : Word).getLsbD k =
      if 1 ≤ k ∧ k < 1 + 7 then (u.ac 5).getLsbD (k - 1) else (u.peek 0o3000).getLsbD k :=
  ⟨{ pointing 0o010700003000 0 with flags := flagMask [.fpd] }, _, by decide, rfl, by decide, by decide, by decide,
    by decide, by decide⟩

theorem witness_ByteLoadsAndDepositsComplete_increment : ∃ u : State,
    (pointing 0o440700003000 0).effective at2000 = .ok 0o2000 ∧ (pointing 0o440700003000 0).flag .fpd = false ∧
    (pointing 0o440700003000 0).incPointer 0o2000 = .ok u ∧ u.getPSA 0o2000 = .ok (29, 7, 0o3000) ∧
    u.present 0o3000 = true := ⟨_, by decide, by decide, rfl, by decide, by decide⟩

/-- The pointer `w` stands at E = 2000, and the word after it exists. -/
abbrev Pointed (w : Word) : Prop := (pointing w 0o3000).effective at2000 = .ok 0o2000 ∧
  (pointing w 0o3000).present ((pointing w 0o3000).sec 0o2000) = true ∧
  (pointing w 0o3000).peek ((pointing w 0o3000).sec 0o2000) = w ∧
  (pointing w 0o3000).present ((pointing w 0o3000).sec (0o2000 + 1)) = true

/-- A pointer for each clause: code 077, a Global-1 byte that fits and one that does not, a local pointer that falls by
its size and one that carries (the size larger than the position), and a two-word pointer that carries. -/
theorem witness_IncrementBytePointerCompletes :
    Pointed 0o770000003000 ∧ Pointed 0o450000003000 ∧ Pointed 0o530000003000 ∧
    Pointed 0o070700003000 ∧ Pointed 0o060700003000 ∧ Pointed 0o060740000000 ∧
    ((0o770000003000 : Word).extractLsb' 30 6).toNat = 63 ∧
    (global1Field 0o45).1 ≤ (global1Field 0o45).2 ∧ (global1Field 0o53).2 < (global1Field 0o53).1 ∧
    (0o060700003000 : Word).getMsbD 12 = false ∧ (0o060740000000 : Word).getMsbD 12 = true ∧
    ∃ u, (pointing 0o070700003000 0o3000).incPointer 0o2000 = .ok u :=
  ⟨by decide, by decide, by decide, by decide, by decide, by decide, by decide, by decide, by decide, by decide,
    by decide, _, rfl⟩

/-- Moving by AC5 = 7: the Global-1 pointer 045 (size 6, position 36) by 7 bytes to position 30 of the next word, code
046; a local pointer of size 7 and position 36; sizes 0 and 63, of which no byte fits. -/
theorem witness_AdjustBytePointerCompletes :
    Pointed 0o450000003000 ∧ Pointed 0o440700003000 ∧ Pointed 0o440740000000 ∧
    Pointed 0o440000003000 ∧ Pointed 0o447700003000 ∧ Pointed 0o770000003000 ∧
    ((pointing 0o450000003000 0o3000).ac 5).toInt + ((36 - 36) / 6 : Nat) = 7 ∧ ((36 - 36) / 6 + 36 / 6 : Nat) = 6 ∧
    (7 - 1 : Int) / 6 = 1 ∧ (36 - (7 - 1 * 6) * 6 - ((36 - 36) % 6 : Nat) : Int) = 30 ∧
    global1Field 0o45 = (6, 36) ∧ global1Field 0o46 = (6, 30) ∧ (36 - 36) / 63 + 36 / 63 = 0 :=
  ⟨by decide, by decide, by decide, by decide, by decide, by decide, by decide, by decide, by decide, by decide,
    by decide, by decide⟩

theorem witness_DepositedByteLoadsBack : (∀ p ∈ [(0, 36), (36, 0), (35, 1)], p.1 + p.2 ≤ 36) ∧ (34 : Nat) < 35 ∧
    0 + 0 ≤ 0 := by decide

theorem witness_AdjustEqualsIncrements : (∀ p ∈ [(1, 36), (36, 0), (36, 1), (7, 5)], 1 ≤ p.1 ∧ p.1 ≤ 36 ∧
    p.2 * p.1 ≤ 36) ∧ (1 : Nat) ≤ 1 ∧ 36 < 37 ∧ 62 < 63 := by decide

theorem witness_MonitorCallsComplete : plain.effective at2000 = .ok 0o2000 ∧ MuuoPossible plain ∧
    plain.params.unassignedPolicy = .muuo ∧ (0o000, .muuo) ∈ monitorCalls ∧ (0o247, .unassigned247) ∈ unassignedOpcodes ∧
    (0o17, .jrstFn17) ∈ unassignedFunctions ∧
    ∃ s : State, s.effective at2000 = .ok 0o2000 ∧ s.params.unassignedPolicy = .refuse :=
  ⟨by decide, ⟨by decide, by decide, by decide⟩, rfl, by simp [monitorCalls], by simp [unassignedOpcodes],
    by simp [unassignedFunctions], { plain with params := { plain.params with unassignedPolicy := .refuse } }, by decide⟩

theorem witness_DeviceInstructionsComplete : ∃ d ∈ attached.devices, registryFrom 0 attached.devices = true ∧
    attached.flag .usr = false ∧ attached.effective at2000 = .ok 0o2000 ∧
    attached.present (attached.sec 0o2000) = true ∧ (∀ k < 8, d.caps.getLsbD k = true) ∧
    ∃ next : Word, next = (lh (attached.peek (attached.sec 0o2000)) + 1) ++ (rh (attached.peek (attached.sec 0o2000)) + 1)
      ∧ attached.present (attached.sec (rh next)) = true :=
  ⟨⟨0o24, 3, true, 0o377⟩, by decide, by decide, by decide, by decide, by decide, by decide, 0o000001000101, by decide⟩

/-- No device 21; the controller asked for BLKI; device 20, which implements nothing; under both policies. -/
theorem witness_MissingDeviceOrOperation : ∀ policy : IoPolicy, ∃ s : State, registryFrom 0 s.devices = true ∧
    s.flag .usr = false ∧ s.effective at2000 = .ok 0o2000 ∧ s.params.ioPolicy = policy ∧
    (∀ d ∈ s.devices, d.id ≠ 0o21) ∧ (∃ d ∈ s.devices, d.id = 0o20 ∧ d.caps.getLsbD 0 = false) ∧
    (∃ row ∈ ioRows, row.code.toNat < 4 ∧ 0 ∈ row.needs) := by
  intro policy
  refine ⟨{ attached with params := { attached.params with ioPolicy := policy } }, ?_, ?_, ?_, rfl, ?_, ?_, _,
    by simp only [ioRows]; exact List.mem_cons_self, by decide, by simp⟩ <;>
  cases policy <;> decide

theorem witness_ControllerInstructionsComplete : attached.flag .usr = false ∧
    attached.effective at2000 = .ok 0o2000 ∧ attached.present (attached.sec 0o2000) = true ∧
    ∃ p : InterruptController, p.turnedOn = ((0o2000 : Offset).getLsbD 7
      || (attached.pi.turnedOn && !(0o2000 : Offset).getLsbD 8 && !(0o2000 : Offset).getLsbD 12)) ∧
      p.current = (if (0o2000 : Offset).getLsbD 12 then none else attached.pi.current) :=
  ⟨by decide, by decide, by decide, ⟨true, 0o177, 0, 0, none⟩, by decide⟩

end Sys2Proof.Tests
end

section
/-!
PROOFS. What every step keeps (spec/10_state.md). One instruction keeps what `Keeps` says, by its kind; a dispatch chain
does, by induction on the re-dispatches it may still make; the boundary before it and the end of the cycle after it write
named fields only.
-/

namespace Sys2Proof.Machine

variable {s t : State}

-- One instruction

/-- Whatever the instruction, a completed one keeps what `Keeps` says. -/
theorem exec_keeps {i : Instr} (h : exec i s = .next t) : Keeps s t := by
  cases exec_kind i s t h with
  | ordinary ho => exact ho.toKeeps
  | monitor e hm =>
    obtain ⟨_, hk, _⟩ := raiseMuuo_next hm
    exact hk
  | restore m last _ hk => exact hk
  | link ac m _ hk => exact hk
  | halt m _ _ hk => exact hk
  | io _ hk => exact hk

/-- RUNNING after a completed instruction: as before, or 0 by a legal HALT (R515). -/
theorem exec_running {i : Instr} (h : exec i s = .next t) :
    t.running = s.running ∨ (t.running = false ∧ s.ioLegal = true ∧ ∃ m, i = .halt m) := by
  cases exec_kind i s t h with
  | ordinary ho => exact .inl ho.running
  | monitor e hm =>
    obtain ⟨_, _, hr, _⟩ := raiseMuuo_next hm
    exact .inl hr
  | restore m last _ _ _ hr => exact .inl hr
  | link ac m _ _ _ hr => exact .inl hr
  | halt m hi hl _ _ hr => exact .inr ⟨hr, hl, m, hi⟩
  | io _ _ _ hr => exact .inl hr

-- The dispatch chain

/-- Taking up a re-dispatch writes nothing else. -/
theorem keeps_clearRedispatch (s : State) : Keeps s { s with redispatch := none } :=
  ⟨rfl, rfl, rfl, rfl, rfl, fun _ _ _ => rfl, id, id, fun _ => rfl, rfl⟩

/-- A dispatch chain that answers: its first instruction completed, and it was the last one or the chain goes on with
the word it left. -/
theorem runChain_next {fuel : Nat} {w : Word} (h : runChain fuel w s = .next t) :
    ∃ u, exec (decode w) s = .next u ∧ ((u.redispatch = none ∧ t = u) ∨
      ∃ k w', fuel = k + 1 ∧ u.redispatch = some w' ∧ runChain k w' { u with redispatch := none } = .next t) := by
  unfold runChain at h
  split at h
  · rename_i u hu
    refine ⟨u, hu, ?_⟩
    split at h
    · rename_i hr
      cases h
      exact .inl ⟨hr, rfl⟩
    · rename_i w' hr
      split at h
      · cases h
      · exact .inr ⟨_, w', rfl, hr, h⟩
  · cases h
  · cases h

/-- However long, a dispatch chain keeps what each of its instructions keeps, and it leaves no re-dispatch pending. -/
theorem runChain_keeps {fuel : Nat} {w : Word} (h : runChain fuel w s = .next t) :
    Keeps s t ∧ t.redispatch = none := by
  induction fuel generalizing w s with
  | zero =>
    obtain ⟨u, hu, ⟨hr, rfl⟩ | ⟨k, _, hk, _⟩⟩ := runChain_next h
    · exact ⟨exec_keeps hu, hr⟩
    · cases hk
  | succ k ih =>
    obtain ⟨u, hu, ⟨hr, rfl⟩ | ⟨_, w', hk, _, hc⟩⟩ := runChain_next h
    · exact ⟨exec_keeps hu, hr⟩
    · cases hk
      obtain ⟨hku, hr⟩ := ih hc
      exact ⟨keeps_trans (exec_keeps hu) (keeps_trans (keeps_clearRedispatch u) hku), hr⟩

-- The boundary

/-- The boundary writes the exception cycle, the re-dispatch, FLAGS, the controller and the history only, and an
exception cycle it enters remembers the PC (R622). -/
theorem boundary_eq (s : State) : ∃ x f p l,
    s.boundary.2 = { s with exceptionCycle := x, redispatch := none, flags := f, pi := p, ioLog := l } ∧
      ∀ y, x = some y → y.pc = s.pc := by
  unfold State.boundary
  dsimp only
  split
  · exact ⟨_, _, _, _, rfl, by rintro _ ⟨⟩; rfl⟩
  · split
    · exact ⟨_, _, _, _, rfl, by rintro _ ⟨⟩; rfl⟩
    · exact ⟨_, _, _, _, rfl, nofun⟩

/-- What instructions keep of the state after the boundary they keep of the state before it, but for the exception
cycle; the section of PC without its proviso, since the interrupted PC is PC itself. -/
theorem keeps_of_boundary (h : Keeps s.boundary.2 t) :
    t.acblk = s.acblk ∧ t.pagingEn = s.pagingEn ∧ t.params = s.params ∧ t.icount = s.icount ∧
      sectionOf t.pc = sectionOf s.pc ∧ ∀ b r, b ≠ s.acblk → bankWord t b r = bankWord s b r := by
  obtain ⟨x, f, p, l, hb, hx⟩ := boundary_eq s
  rw [hb] at h
  exact ⟨h.acblk, h.pagingEn, h.params, h.icount, h.pcSection fun y hy => by rw [hx y hy], h.banks⟩

-- The cycle and the step

/-- A cycle that answers: a dispatch chain after the boundary, then the end of the cycle. -/
theorem cycle_next (h : cycle s = .next t) :
    ∃ w u, s.boundary.2.readMem s.boundary.1 = .ok w ∧
      runChain s.params.maxXct w s.boundary.2 = .next u ∧ t = u.endCycle := by
  unfold cycle at h
  split at h
  · cases h
  · rename_i w hw
    split at h
    · rename_i u hu
      cases h
      exact ⟨w, u, hw, hu, rfl⟩
    · cases h
    · cases h

/-- A cycle that answers, as far as its instructions do not matter. -/
theorem cycle_keeps (h : cycle s = .next t) :
    ∃ u, Keeps s.boundary.2 u ∧ u.redispatch = none ∧ t = u.endCycle := by
  obtain ⟨w, u, _, hu, rfl⟩ := cycle_next h
  obtain ⟨hk, hr⟩ := runChain_keeps hu
  exact ⟨u, hk, hr, rfl⟩

theorem step_of_running (h : s.running = true) : step s = cycle s := if_pos h

theorem step_of_not_running (h : s.running = false) : step s = .next s := by simp [step, h]

-- The obligations

/-- Settles O16: no instruction writes any of it, and the boundary writes none of it either. -/
theorem stepNeverWrites : Obligations.StepNeverWrites := by
  intro s t h
  cases hr : s.running with
  | false =>
    rw [step_of_not_running hr] at h
    cases h
    exact ⟨rfl, rfl, rfl, rfl, fun _ _ _ => rfl⟩
  | true =>
    rw [step_of_running hr] at h
    obtain ⟨u, hk, _, rfl⟩ := cycle_keeps h
    obtain ⟨hacblk, hpaging, hparams, _, hpc, hbanks⟩ := keeps_of_boundary hk
    exact ⟨hacblk, hpaging, hparams, hpc, hbanks⟩

/-- Settles O10: a dispatch chain keeps ICOUNT and ends with no re-dispatch, and the end of the cycle adds the one. -/
theorem completedCycleIsCounted : Obligations.CompletedCycleIsCounted := by
  refine fun s => ⟨step_of_not_running, fun t hr h => ?_⟩
  rw [step_of_running hr] at h
  obtain ⟨u, hk, hu, rfl⟩ := cycle_keeps h
  obtain ⟨_, _, _, hicount, _⟩ := keeps_of_boundary hk
  exact ⟨congrArg (· + 1) hicount, rfl, hu⟩

/-- Settles O17: of the six kinds of completed instruction, a legal HALT alone writes RUNNING. -/
theorem onlyHaltChangesRunning : Obligations.OnlyHaltChangesRunning :=
  fun _ _ _ h hne => (exec_running h).resolve_left hne

/-- Settles O12: memory and the registry are empty and no cycle is in progress. -/
theorem resetMeetsInvariant : Obligations.ResetMeetsInvariant where
  memCanonical := rfl
  memInRange := nofun
  registry := rfl
  noException := rfl
  noRedispatch := rfl

/-- Settles O13: each is the value that `State.reset` writes, and the registry is empty. -/
theorem resetValues : Obligations.ResetValues :=
  ⟨rfl, rfl, rfl, rfl, rfl, rfl, rfl, rfl, rfl, nofun, rfl, rfl, rfl⟩

end Sys2Proof.Machine
end

section
/-!
PROOFS. Memory (spec/20_memory.md): the invariant through a step, read after write, and accesses that stop.
-/

namespace Sys2Proof.Machine

variable {s t : State} {a : VAddr} {m : AddrPart} {e : Offset} {ac : AcNum}

-- The invariant through a step

/-- The form of the registry is a property of the devices' numbers alone (R32). -/
theorem registryFrom_congr {ds ds' : List Device} (h : ds'.map (fun d => d.id) = ds.map (fun d => d.id)) (lo : Nat) :
    registryFrom lo ds' = registryFrom lo ds := by
  induction ds generalizing ds' lo with
  | nil => rw [List.map_eq_nil_iff.mp h]
  | cons d ds ih =>
    obtain ⟨d', ds', rfl, hd, hds⟩ := List.map_eq_cons_iff.mp h
    simp only [registryFrom, hd, ih hds]

/-- What instructions keep of the state after the boundary is enough for the invariant once the cycle has ended: the
boundary writes neither memory nor the registry nor the parameters. -/
theorem inv_endCycle (hs : Inv s) (hk : Keeps s.boundary.2 t) (hr : t.redispatch = none) : Inv t.endCycle := by
  obtain ⟨x, f, p, l, hb, _⟩ := boundary_eq s
  rw [hb] at hk
  exact
    { memCanonical := hk.canonical hs.memCanonical
      memInRange := by
        rw [State.endCycle_params, hk.params]
        exact hk.inRange hs.memInRange
      registry := (registryFrom_congr hk.registry 0).trans hs.registry
      noException := State.endCycle_exceptionCycle t
      noRedispatch := hr }

-- Reading back a write

/-- At 16 or above a write is to memory, and no accumulator of any bank changes (R54). -/
theorem poke_acs_of_le (s : State) (v : Word) (ha : 16 ≤ a.toNat) : (s.poke a v).acs = s.acs := by
  have hn : isAcAddr a = false := by simpa [isAcAddr] using ha
  simp [State.poke, hn]

-- Accesses that stop

/-- An address exists unless it is 16 or more and not below `MEMWORDS` (R55). -/
theorem present_eq_false_iff : s.present a = false ↔ 16 ≤ a.toNat ∧ s.params.memWords ≤ a.toNat := by
  simp [State.present, isAcAddr]

/-- Whether an address exists is the same on both sides of the boundary, which does not write `MEMWORDS`. -/
theorem boundary_present (s : State) (a : VAddr) : s.boundary.2.present a = s.present a := by
  obtain ⟨x, f, p, l, hb, _⟩ := boundary_eq s
  rw [hb]
  rfl

theorem operand_error (he : s.effective m = .ok e) (hp : s.present (s.sec e) = false) :
    s.operand m = .error (.nonexistentMemory (s.sec e)) := by
  simp only [State.operand, bind, Except.bind, he, readMem_error hp]

/-- Mode basic of the move family stops where its source does not exist. -/
theorem unaryBasic_fault (f : Word → Word × BitVec 13) (he : s.effective m = .ok e)
    (hp : s.present (s.sec e) = false) : unaryBasic f ac m s = .fault (.nonexistentMemory (s.sec e)) := by
  simp only [unaryBasic, bind, Except.bind, operand_error he hp, finish]

/-- Mode M of the move family stops where its destination does not exist. -/
theorem unaryMemory_fault (f : Word → Word × BitVec 13) (he : s.effective m = .ok e)
    (hp : s.present (s.sec e) = false) : unaryMemory f ac m s = .fault (.nonexistentMemory (s.sec e)) := by
  have hp' : (s.setFlags (f (s.ac ac)).2).present (s.sec e) = false := by rwa [State.setFlags_present]
  simp only [unaryMemory, bind, Except.bind, he, writeMem_error _ hp', finish]

/-- A cycle stops where it fetches from an address that does not exist. -/
theorem cycle_fault_of_fetch (hp : s.present s.boundary.1 = false) :
    cycle s = .fault (.nonexistentMemory s.boundary.1) := by
  rw [← boundary_present] at hp
  simp only [cycle, readMem_error hp]

-- The obligations

/-- Settles O11: with RUNNING 0 the state is kept; otherwise the instructions of the cycle keep the form of memory and
the devices' numbers, and the end of the cycle leaves nothing in progress. -/
theorem stepKeepsInvariant : Obligations.StepKeepsInvariant := by
  intro s t hs h
  cases hr : s.running with
  | false =>
    rw [step_of_not_running hr] at h
    cases h
    exact hs
  | true =>
    rw [step_of_running hr] at h
    obtain ⟨u, hk, hu, rfl⟩ := cycle_keeps h
    exact inv_endCycle hs hk hu

/-- Settles O20: a write that is possible is `poke`, whose readings `peek_poke` gives, and an accumulator's address is
its number. -/
theorem writtenWordReadsBack : Obligations.WrittenWordReadsBack := by
  intro s a v ha
  refine ⟨s.poke a v, writeMem_ok v ha, effect_poke (effect_refl s) a v, ?_, ?_, poke_acs_of_le s v⟩
  · intro b hb
    have hb' : (s.poke a v).present b = true := by rwa [State.poke_present]
    rw [readMem_ok hb', peek_poke]
  · rintro r rfl
    rw [← setAc_eq_poke]
    exact ⟨rfl, State.setAc_mem s r v⟩

/-- Settles O21: such an address is not present, and the accesses test that before anything else. -/
theorem nonexistentMemoryFaults : Obligations.NonexistentMemoryFaults := by
  intro s a ha hm
  have hp : s.present a = false := present_eq_false_iff.mpr ⟨ha, hm⟩
  refine ⟨readMem_error hp, fun v => writeMem_error v hp, ?_, ?_⟩
  · rintro ac m e he rfl
    exact ⟨unaryBasic_fault copied he hp, unaryMemory_fault copied he hp⟩
  · intro b hr hb
    obtain rfl : s.boundary.1 = a := congrArg Prod.fst hb
    rw [step_of_running hr]
    exact cycle_fault_of_fetch hp

end Sys2Proof.Machine
end

section
/-!
PROOFS. Encoding (spec/30_encoding.md): decoder and encoder undo each other, each way, and the resolver follows the
indirection chain.
-/

namespace Sys2Proof

-- From an instruction to its word and back

open Laws in
/-- Every instruction has its round trip: one law for each constructor, in the order of the type. -/
theorem roundTrip : ∀ i : Instr, RoundTrip.Statement i :=
  Instr.rec (motive := RoundTrip.Statement)
    RoundTrip.move RoundTrip.movei RoundTrip.movem RoundTrip.moves RoundTrip.movs RoundTrip.movsi RoundTrip.movsm
    RoundTrip.movss RoundTrip.movn RoundTrip.movni RoundTrip.movnm RoundTrip.movns RoundTrip.movm RoundTrip.movmi
    RoundTrip.movmm RoundTrip.movms RoundTrip.exch RoundTrip.blt RoundTrip.dmove RoundTrip.dmovn RoundTrip.dmovem
    RoundTrip.dmovnm RoundTrip.add RoundTrip.addi RoundTrip.addm RoundTrip.addb RoundTrip.sub RoundTrip.subi
    RoundTrip.subm RoundTrip.subb RoundTrip.imul RoundTrip.imuli RoundTrip.imulm RoundTrip.imulb RoundTrip.mul
    RoundTrip.muli RoundTrip.mulm RoundTrip.mulb RoundTrip.idiv RoundTrip.idivi RoundTrip.idivm RoundTrip.idivb
    RoundTrip.div RoundTrip.divi RoundTrip.divm RoundTrip.divb RoundTrip.dadd RoundTrip.dsub RoundTrip.dmul
    RoundTrip.ddiv RoundTrip.setz RoundTrip.setzi RoundTrip.setzm RoundTrip.setzb RoundTrip.and RoundTrip.andi
    RoundTrip.andm RoundTrip.andb RoundTrip.andca RoundTrip.andcai RoundTrip.andcam RoundTrip.andcab RoundTrip.setm
    RoundTrip.setmi RoundTrip.setmm RoundTrip.setmb RoundTrip.andcm RoundTrip.andcmi RoundTrip.andcmm RoundTrip.andcmb
    RoundTrip.seta RoundTrip.setai RoundTrip.setam RoundTrip.setab RoundTrip.xor RoundTrip.xori RoundTrip.xorm
    RoundTrip.xorb RoundTrip.ior RoundTrip.iori RoundTrip.iorm RoundTrip.iorb RoundTrip.andcb RoundTrip.andcbi
    RoundTrip.andcbm RoundTrip.andcbb RoundTrip.eqv RoundTrip.eqvi RoundTrip.eqvm RoundTrip.eqvb RoundTrip.setca
    RoundTrip.setcai RoundTrip.setcam RoundTrip.setcab RoundTrip.orca RoundTrip.orcai RoundTrip.orcam RoundTrip.orcab
    RoundTrip.setcm RoundTrip.setcmi RoundTrip.setcmm RoundTrip.setcmb RoundTrip.orcm RoundTrip.orcmi RoundTrip.orcmm
    RoundTrip.orcmb RoundTrip.orcb RoundTrip.orcbi RoundTrip.orcbm RoundTrip.orcbb RoundTrip.seto RoundTrip.setoi
    RoundTrip.setom RoundTrip.setob RoundTrip.ash RoundTrip.rot RoundTrip.lsh RoundTrip.ashc RoundTrip.rotc
    RoundTrip.lshc RoundTrip.cai RoundTrip.cail RoundTrip.caie RoundTrip.caile RoundTrip.caia RoundTrip.caige
    RoundTrip.cain RoundTrip.caig RoundTrip.cam RoundTrip.caml RoundTrip.came RoundTrip.camle RoundTrip.cama
    RoundTrip.camge RoundTrip.camn RoundTrip.camg RoundTrip.jump RoundTrip.jumpl RoundTrip.jumpe RoundTrip.jumple
    RoundTrip.jumpa RoundTrip.jumpge RoundTrip.jumpn RoundTrip.jumpg RoundTrip.skip RoundTrip.skipl RoundTrip.skipe
    RoundTrip.skiple RoundTrip.skipa RoundTrip.skipge RoundTrip.skipn RoundTrip.skipg RoundTrip.aoj RoundTrip.aojl
    RoundTrip.aoje RoundTrip.aojle RoundTrip.aoja RoundTrip.aojge RoundTrip.aojn RoundTrip.aojg RoundTrip.aos
    RoundTrip.aosl RoundTrip.aose RoundTrip.aosle RoundTrip.aosa RoundTrip.aosge RoundTrip.aosn RoundTrip.aosg
    RoundTrip.soj RoundTrip.sojl RoundTrip.soje RoundTrip.sojle RoundTrip.soja RoundTrip.sojge RoundTrip.sojn
    RoundTrip.sojg RoundTrip.sos RoundTrip.sosl RoundTrip.sose RoundTrip.sosle RoundTrip.sosa RoundTrip.sosge
    RoundTrip.sosn RoundTrip.sosg RoundTrip.aobjp RoundTrip.aobjn RoundTrip.jffo RoundTrip.hll RoundTrip.hlli
    RoundTrip.hllm RoundTrip.hlls RoundTrip.hrl RoundTrip.hrli RoundTrip.hrlm RoundTrip.hrls RoundTrip.hllz
    RoundTrip.hllzi RoundTrip.hllzm RoundTrip.hllzs RoundTrip.hrlz RoundTrip.hrlzi RoundTrip.hrlzm RoundTrip.hrlzs
    RoundTrip.hllo RoundTrip.hlloi RoundTrip.hllom RoundTrip.hllos RoundTrip.hrlo RoundTrip.hrloi RoundTrip.hrlom
    RoundTrip.hrlos RoundTrip.hlle RoundTrip.hllei RoundTrip.hllem RoundTrip.hlles RoundTrip.hrle RoundTrip.hrlei
    RoundTrip.hrlem RoundTrip.hrles RoundTrip.hrr RoundTrip.hrri RoundTrip.hrrm RoundTrip.hrrs RoundTrip.hlr
    RoundTrip.hlri RoundTrip.hlrm RoundTrip.hlrs RoundTrip.hrrz RoundTrip.hrrzi RoundTrip.hrrzm RoundTrip.hrrzs
    RoundTrip.hlrz RoundTrip.hlrzi RoundTrip.hlrzm RoundTrip.hlrzs RoundTrip.hrro RoundTrip.hrroi RoundTrip.hrrom
    RoundTrip.hrros RoundTrip.hlro RoundTrip.hlroi RoundTrip.hlrom RoundTrip.hlros RoundTrip.hrre RoundTrip.hrrei
    RoundTrip.hrrem RoundTrip.hrres RoundTrip.hlre RoundTrip.hlrei RoundTrip.hlrem RoundTrip.hlres RoundTrip.trn
    RoundTrip.tln RoundTrip.trne RoundTrip.tlne RoundTrip.trna RoundTrip.tlna RoundTrip.trnn RoundTrip.tlnn
    RoundTrip.tdn RoundTrip.tsn RoundTrip.tdne RoundTrip.tsne RoundTrip.tdna RoundTrip.tsna RoundTrip.tdnn
    RoundTrip.tsnn RoundTrip.trz RoundTrip.tlz RoundTrip.trze RoundTrip.tlze RoundTrip.trza RoundTrip.tlza
    RoundTrip.trzn RoundTrip.tlzn RoundTrip.tdz RoundTrip.tsz RoundTrip.tdze RoundTrip.tsze RoundTrip.tdza
    RoundTrip.tsza RoundTrip.tdzn RoundTrip.tszn RoundTrip.trc RoundTrip.tlc RoundTrip.trce RoundTrip.tlce
    RoundTrip.trca RoundTrip.tlca RoundTrip.trcn RoundTrip.tlcn RoundTrip.tdc RoundTrip.tsc RoundTrip.tdce
    RoundTrip.tsce RoundTrip.tdca RoundTrip.tsca RoundTrip.tdcn RoundTrip.tscn RoundTrip.tro RoundTrip.tlo
    RoundTrip.troe RoundTrip.tloe RoundTrip.troa RoundTrip.tloa RoundTrip.tron RoundTrip.tlon RoundTrip.tdo
    RoundTrip.tso RoundTrip.tdoe RoundTrip.tsoe RoundTrip.tdoa RoundTrip.tsoa RoundTrip.tdon RoundTrip.tson
    RoundTrip.jrst RoundTrip.portal RoundTrip.jrstf RoundTrip.halt RoundTrip.jrst10 RoundTrip.jen RoundTrip.jrstFn3
    RoundTrip.jrstFn5 RoundTrip.jrstFn6 RoundTrip.jrstFn7 RoundTrip.jrstFn11 RoundTrip.jrstFn13 RoundTrip.jrstFn14
    RoundTrip.jrstFn15 RoundTrip.jrstFn16 RoundTrip.jrstFn17 RoundTrip.jfcl RoundTrip.xct RoundTrip.jsr RoundTrip.jsp
    RoundTrip.jsa RoundTrip.jra RoundTrip.pushj RoundTrip.popj RoundTrip.push RoundTrip.pop RoundTrip.adjsp
    RoundTrip.ibp RoundTrip.adjbp RoundTrip.ildb RoundTrip.ldb RoundTrip.idpb RoundTrip.dpb RoundTrip.muuo
    RoundTrip.luuo001 RoundTrip.luuo002 RoundTrip.luuo003 RoundTrip.luuo004 RoundTrip.luuo005 RoundTrip.luuo006
    RoundTrip.luuo007 RoundTrip.luuo010 RoundTrip.luuo011 RoundTrip.luuo012 RoundTrip.luuo013 RoundTrip.luuo014
    RoundTrip.luuo015 RoundTrip.luuo016 RoundTrip.luuo017 RoundTrip.luuo020 RoundTrip.luuo021 RoundTrip.luuo022
    RoundTrip.luuo023 RoundTrip.luuo024 RoundTrip.luuo025 RoundTrip.luuo026 RoundTrip.luuo027 RoundTrip.luuo030
    RoundTrip.luuo031 RoundTrip.luuo032 RoundTrip.luuo033 RoundTrip.luuo034 RoundTrip.luuo035 RoundTrip.luuo036
    RoundTrip.luuo037 RoundTrip.muuo040 RoundTrip.muuo041 RoundTrip.muuo042 RoundTrip.muuo043 RoundTrip.muuo044
    RoundTrip.muuo045 RoundTrip.muuo046 RoundTrip.muuo047 RoundTrip.muuo050 RoundTrip.muuo051 RoundTrip.muuo052
    RoundTrip.muuo053 RoundTrip.muuo054 RoundTrip.muuo055 RoundTrip.muuo056 RoundTrip.muuo057 RoundTrip.muuo060
    RoundTrip.muuo061 RoundTrip.muuo062 RoundTrip.muuo063 RoundTrip.muuo064 RoundTrip.muuo065 RoundTrip.muuo066
    RoundTrip.muuo067 RoundTrip.muuo070 RoundTrip.muuo071 RoundTrip.muuo072 RoundTrip.muuo073 RoundTrip.muuo074
    RoundTrip.muuo075 RoundTrip.muuo076 RoundTrip.muuo077 RoundTrip.unassigned100 RoundTrip.unassigned101
    RoundTrip.unassigned102 RoundTrip.unassigned103 RoundTrip.unassigned104 RoundTrip.unassigned106
    RoundTrip.unassigned107 RoundTrip.unassigned110 RoundTrip.unassigned111 RoundTrip.unassigned112
    RoundTrip.unassigned113 RoundTrip.unassigned122 RoundTrip.unassigned123 RoundTrip.unassigned126
    RoundTrip.unassigned127 RoundTrip.unassigned130 RoundTrip.unassigned131 RoundTrip.unassigned132
    RoundTrip.unassigned140 RoundTrip.unassigned141 RoundTrip.unassigned142 RoundTrip.unassigned143
    RoundTrip.unassigned144 RoundTrip.unassigned145 RoundTrip.unassigned146 RoundTrip.unassigned147
    RoundTrip.unassigned150 RoundTrip.unassigned151 RoundTrip.unassigned152 RoundTrip.unassigned153
    RoundTrip.unassigned154 RoundTrip.unassigned155 RoundTrip.unassigned156 RoundTrip.unassigned157
    RoundTrip.unassigned160 RoundTrip.unassigned161 RoundTrip.unassigned162 RoundTrip.unassigned163
    RoundTrip.unassigned164 RoundTrip.unassigned165 RoundTrip.unassigned166 RoundTrip.unassigned167
    RoundTrip.unassigned170 RoundTrip.unassigned171 RoundTrip.unassigned172 RoundTrip.unassigned173
    RoundTrip.unassigned174 RoundTrip.unassigned175 RoundTrip.unassigned176 RoundTrip.unassigned177
    RoundTrip.unassigned247 RoundTrip.unassigned257 RoundTrip.blki RoundTrip.datai RoundTrip.blko RoundTrip.datao
    RoundTrip.cono RoundTrip.coni RoundTrip.consz RoundTrip.conso

/-- A word given as a number is decoded as the word, whatever width is stated (R80). -/
theorem decodeTableWord_toNat (nbits : Nat) (w : Word) : decodeTableWord nbits w.toNat = some (decode w) := by
  rw [decodeTableWord, if_pos w.isLt, BitVec.ofNat_toNat, BitVec.setWidth_eq]

-- A word put together again from its own fields

/-- Opcode and accumulator fields make up the head (R80). -/
theorem opField_append_acField (w : Word) : opField w ++ acField w = headField w :=
  BitVec.extractLsb'_append_extractLsb'_eq_extractLsb' rfl

/-- Every word is a word of the basic format (R80). -/
theorem basicWord_fields (w : Word) : basicWord (opField w) (acField w) (AddrPart.ofWord w) = w := by
  rw [basicWord, opField_append_acField, bits_ofWord, word_split]

/-- The top three bits of a word whose opcode is 0700 or more are ones. -/
theorem topBits_of_le_opField {w : Word} (h : 448 ≤ (opField w).toNat) : w.extractLsb' 33 3 = 7#3 := by
  apply BitVec.eq_of_toNat_eq
  simp only [opField, BitVec.extractLsb'_toNat, Nat.shiftRight_eq_div_pow, BitVec.toNat_ofNat] at h ⊢
  omega

/-- Every word whose opcode is 0700 or more is a word of the I/O format (R81, R82). -/
theorem ioWord_fields {w : Word} (h : 448 ≤ (opField w).toNat) :
    ioWord (devField w) (subField w) (AddrPart.ofWord w) = w := by
  have hdev : (7#3) ++ devField w = w.extractLsb' 26 10 := by
    rw [← topBits_of_le_opField h]
    exact BitVec.extractLsb'_append_extractLsb'_eq_extractLsb' rfl
  have hhead : w.extractLsb' 26 10 ++ subField w = headField w :=
    BitVec.extractLsb'_append_extractLsb'_eq_extractLsb' rfl
  rw [ioWord, hdev, hhead, bits_ofWord, word_split]

-- The entries of the dispatch table

/-- What an entry of the dispatch table builds is well formed, and its word has the opcode `op` and the entry's own
operands. -/
def EncodesAt (op : BitVec 9) (f : AcNum → AddrPart → Instr) : Prop :=
  ∀ ac m, (f ac m).wellFormed = true ∧ encode (f ac m) = basicWord op ac m

/-- The entries of a list stand, in order, for the opcodes from `n` on and before `e`. -/
def EncodesRange : Nat → Nat → List (AcNum → AddrPart → Instr) → Prop
  | n, e, [] => n = e
  | n, e, f :: fs => EncodesAt (BitVec.ofNat 9 n) f ∧ EncodesRange (n + 1) e fs

theorem encodesRange_append {n k e : Nat} {fs gs : List (AcNum → AddrPart → Instr)} (hf : EncodesRange n k fs)
    (hg : EncodesRange k e gs) : EncodesRange n e (fs ++ gs) := by
  induction fs generalizing n with
  | nil =>
    obtain rfl : n = k := hf
    exact hg
  | cons f fs ih =>
    obtain ⟨hhead, htail⟩ := hf
    exact ⟨hhead, ih htail⟩

theorem encodesAt_of_getElem? {n e k : Nat} {fs : List (AcNum → AddrPart → Instr)} {f : AcNum → AddrPart → Instr}
    (hfs : EncodesRange n e fs) (h : fs[k]? = some f) : EncodesAt (BitVec.ofNat 9 (n + k)) f := by
  induction fs generalizing n k with
  | nil => simp at h
  | cons g fs ih =>
    obtain ⟨hhead, htail⟩ := hfs
    cases k with
    | zero =>
      obtain rfl : g = f := by simpa using h
      exact hhead
    | succ k =>
      have hat := ih htail (k := k) (by simpa using h)
      rwa [Nat.add_right_comm] at hat

/-- Opcode 0133 is IBP where `ac` is 0 and a well-formed ADJBP elsewhere (R91). -/
theorem encodesAt_decodeByteAdjust : EncodesAt 0o133#9 decodeByteAdjust := by
  intro ac m
  unfold decodeByteAdjust
  split
  · next hac =>
    subst hac
    exact ⟨rfl, rfl⟩
  · next hac => exact ⟨by simpa [Instr.wellFormed] using hac, rfl⟩

/-- Opcode 0254: the sixteen function codes each name an instruction whose word has that code (R91, R510). -/
theorem encodesAt_decodeJrst : EncodesAt 0o254#9 decodeJrst := by
  rintro ⟨k, hk⟩ m
  interval_cases k <;> exact ⟨rfl, rfl⟩

-- The blocks of the table: but for opcodes 0133 and 0254, an entry is a constructor

theorem encodesRange_opcodes0 : EncodesRange 0o000 0o100 opcodes0 := by
  simp only [opcodes0, EncodesRange, Nat.reduceAdd, and_true]
  and_intros <;> exact fun _ _ => ⟨rfl, rfl⟩

theorem encodesRange_opcodes1 : EncodesRange 0o100 0o200 opcodes1 := by
  simp only [opcodes1, EncodesRange, Nat.reduceAdd, encodesAt_decodeByteAdjust, true_and, and_true]
  and_intros <;> exact fun _ _ => ⟨rfl, rfl⟩

theorem encodesRange_opcodes2 : EncodesRange 0o200 0o300 opcodes2 := by
  simp only [opcodes2, EncodesRange, Nat.reduceAdd, encodesAt_decodeJrst, true_and, and_true]
  and_intros <;> exact fun _ _ => ⟨rfl, rfl⟩

theorem encodesRange_opcodes3 : EncodesRange 0o300 0o400 opcodes3 := by
  simp only [opcodes3, EncodesRange, Nat.reduceAdd, and_true]
  and_intros <;> exact fun _ _ => ⟨rfl, rfl⟩

theorem encodesRange_opcodes4 : EncodesRange 0o400 0o500 opcodes4 := by
  simp only [opcodes4, EncodesRange, Nat.reduceAdd, and_true]
  and_intros <;> exact fun _ _ => ⟨rfl, rfl⟩

theorem encodesRange_opcodes5 : EncodesRange 0o500 0o600 opcodes5 := by
  simp only [opcodes5, EncodesRange, Nat.reduceAdd, and_true]
  and_intros <;> exact fun _ _ => ⟨rfl, rfl⟩

theorem encodesRange_opcodes6 : EncodesRange 0o600 0o700 opcodes6 := by
  simp only [opcodes6, EncodesRange, Nat.reduceAdd, and_true]
  and_intros <;> exact fun _ _ => ⟨rfl, rfl⟩

/-- The dispatch table holds the opcodes 000 to 677, in order. -/
theorem encodesRange_opcodeTable : EncodesRange 0o000 0o700 opcodeTable :=
  encodesRange_append (encodesRange_append (encodesRange_append (encodesRange_append (encodesRange_append
    (encodesRange_append encodesRange_opcodes0 encodesRange_opcodes1) encodesRange_opcodes2) encodesRange_opcodes3)
    encodesRange_opcodes4) encodesRange_opcodes5) encodesRange_opcodes6

/-- An I/O instruction is well formed, and its word has the device and the sub-operation it was decoded from (R590). -/
theorem encode_decodeIo (sub : BitVec 3) (dev : DevId) (m : AddrPart) :
    (decodeIo sub dev m).wellFormed = true ∧ encode (decodeIo sub dev m) = ioWord dev sub m := by
  obtain ⟨k, hk⟩ := sub
  interval_cases k <;> exact ⟨rfl, rfl⟩

-- The two directions

/-- Settles O1: `roundTrip` gives the instruction back, and the number of a word is decoded as the word. -/
theorem decodeInvertsEncode : Obligations.DecodeInvertsEncode := by
  intro i hi
  have hdecode : decode (encode i) = i := roundTrip i hi
  exact ⟨hdecode, fun nbits => by rw [decodeTableWord_toNat, hdecode]⟩

/-- Settles O2: a word whose opcode is in the table is put together again from the entry's opcode and the word's own
fields; past the table it is an I/O word. -/
theorem encodeInvertsDecode : Obligations.EncodeInvertsDecode := by
  intro w
  unfold decode
  split
  · next f hf =>
    have hop : EncodesAt (opField w) f := by
      simpa using encodesAt_of_getElem? encodesRange_opcodeTable hf
    obtain ⟨hwf, henc⟩ := hop (acField w) (AddrPart.ofWord w)
    exact ⟨hwf, henc.trans (basicWord_fields w)⟩
  · next hnone =>
    have hop : 448 ≤ (opField w).toNat := by
      rwa [List.getElem?_eq_none_iff, opcodeTable_length] at hnone
    obtain ⟨hwf, henc⟩ := encode_decodeIo (subField w) (devField w) (AddrPart.ofWord w)
    exact ⟨hwf, henc.trans (ioWord_fields hop)⟩

end Sys2Proof

namespace Sys2Proof.Machine

variable {s : State} {ap : AddrPart} {last : Word}

-- The resolver's loop, case by case

/-- The word an address part with the indirect bit asks for. -/
def State.linkWord (s : State) (ap : AddrPart) (last : Word) : Word := s.peek (s.sec (s.indexed ap last).1)

/-- Whether that word exists. -/
def State.linkPresent (s : State) (ap : AddrPart) (last : Word) : Bool := s.present (s.sec (s.indexed ap last).1)

theorem resolveFrom_direct (fuel : Nat) (hi : ap.indirect = false) :
    s.resolveFrom fuel ap last = .ok (s.indexed ap last) := by
  unfold State.resolveFrom
  simp [hi]

theorem resolveFrom_zero (hi : ap.indirect = true) : s.resolveFrom 0 ap last = .error .addressLoop := by
  unfold State.resolveFrom
  simp [hi]

theorem resolveFrom_follow (fuel : Nat) (hi : ap.indirect = true) (hp : s.linkPresent ap last = true) :
    s.resolveFrom (fuel + 1) ap last =
      s.resolveFrom fuel (AddrPart.ofWord (s.linkWord ap last)) (s.linkWord ap last) := by
  rw [State.resolveFrom, if_pos hi]
  simp only [bind, Except.bind, readMem_ok hp]
  rfl

theorem resolveFrom_absent (fuel : Nat) (hi : ap.indirect = true) (hp : s.linkPresent ap last = false) :
    s.resolveFrom (fuel + 1) ap last = .error (.nonexistentMemory (s.sec (s.indexed ap last).1)) := by
  rw [State.resolveFrom, if_pos hi]
  simp only [bind, Except.bind, readMem_error hp]

-- The chain of the statement, case by case

theorem resolves_zero_iff {r : Offset × Word} :
    Resolves s ap last 0 r ↔ ap.indirect = false ∧ s.indexed ap last = r := by
  constructor
  · rintro ⟨⟩
    exact ⟨‹_›, rfl⟩
  · rintro ⟨hi, rfl⟩
    exact .direct ap last hi

theorem resolves_succ_iff {n : Nat} {r : Offset × Word} :
    Resolves s ap last (n + 1) r ↔ ap.indirect = true ∧ s.linkPresent ap last = true ∧
      Resolves s (AddrPart.ofWord (s.linkWord ap last)) (s.linkWord ap last) n r := by
  constructor
  · rintro ⟨⟩
    exact ⟨‹_›, ‹_›, ‹_›⟩
  · rintro ⟨hi, hp, hr⟩
    exact .follow ap last n r hi hp hr

theorem indirects_zero_iff : Indirects s ap last 0 ↔ ap.indirect = true :=
  ⟨fun h => by cases h; assumption, .more ap last⟩

theorem indirects_succ_iff {n : Nat} :
    Indirects s ap last (n + 1) ↔ ap.indirect = true ∧ s.linkPresent ap last = true ∧
      Indirects s (AddrPart.ofWord (s.linkWord ap last)) (s.linkWord ap last) n := by
  constructor
  · rintro ⟨⟩
    exact ⟨‹_›, ‹_›, ‹_›⟩
  · rintro ⟨hi, hp, hr⟩
    exact .follow ap last n hi hp hr

-- The loop follows the chain

/-- A chain of at most `fuel + 1` words ends at once, or goes on by one word with at most `fuel` after it. -/
theorem exists_resolves_le_succ_iff {fuel : Nat} {r : Offset × Word} :
    (∃ n ≤ fuel + 1, Resolves s ap last n r) ↔ (ap.indirect = false ∧ s.indexed ap last = r) ∨
      (ap.indirect = true ∧ s.linkPresent ap last = true ∧
        ∃ n ≤ fuel, Resolves s (AddrPart.ofWord (s.linkWord ap last)) (s.linkWord ap last) n r) := by
  constructor
  · rintro ⟨n, hn, hr⟩
    cases n with
    | zero => exact .inl (resolves_zero_iff.mp hr)
    | succ n =>
      obtain ⟨hi, hp, hr⟩ := resolves_succ_iff.mp hr
      exact .inr ⟨hi, hp, n, Nat.le_of_succ_le_succ hn, hr⟩
  · rintro (hend | ⟨hi, hp, n, hn, hr⟩)
    · exact ⟨0, Nat.zero_le _, resolves_zero_iff.mpr hend⟩
    · exact ⟨n + 1, Nat.succ_le_succ hn, resolves_succ_iff.mpr ⟨hi, hp, hr⟩⟩

/-- With `fuel` fetches allowed the loop answers what a chain of at most `fuel` words leads to. -/
theorem resolveFrom_eq_ok_iff (fuel : Nat) (ap : AddrPart) (last : Word) (r : Offset × Word) :
    s.resolveFrom fuel ap last = .ok r ↔ ∃ n ≤ fuel, Resolves s ap last n r := by
  induction fuel generalizing ap last with
  | zero =>
    cases hi : ap.indirect with
    | false => simp [resolveFrom_direct 0 hi, resolves_zero_iff, hi]
    | true => simp [resolveFrom_zero hi, resolves_zero_iff, hi]
  | succ fuel ih =>
    rw [exists_resolves_le_succ_iff]
    cases hi : ap.indirect with
    | false => simp [resolveFrom_direct _ hi]
    | true =>
      cases hp : s.linkPresent ap last with
      | false => simp [resolveFrom_absent _ hi hp]
      | true => simp [resolveFrom_follow _ hi hp, ih]

/-- With `fuel` fetches allowed the loop ends in AddressLoop just where a chain of `fuel` words asks for one more: a
word of the chain that does not exist is another fault. -/
theorem resolveFrom_eq_addressLoop_iff (fuel : Nat) (ap : AddrPart) (last : Word) :
    s.resolveFrom fuel ap last = .error .addressLoop ↔ Indirects s ap last fuel := by
  induction fuel generalizing ap last with
  | zero =>
    cases hi : ap.indirect with
    | false => simp [resolveFrom_direct 0 hi, indirects_zero_iff, hi]
    | true => simp [resolveFrom_zero hi, indirects_zero_iff, hi]
  | succ fuel ih =>
    cases hi : ap.indirect with
    | false => simp [resolveFrom_direct _ hi, indirects_succ_iff, hi]
    | true =>
      cases hp : s.linkPresent ap last with
      | false => simp [resolveFrom_absent _ hi hp, indirects_succ_iff, hp]
      | true => simp [resolveFrom_follow _ hi hp, indirects_succ_iff, hi, hp, ih]

-- The obligation

/-- Settles O19: the resolver is the loop with `MAX_INDIRECT` fetches allowed. -/
theorem resolverFollowsChain : Obligations.ResolverFollowsChain :=
  ⟨fun _ _ _ hx => if_pos hx, fun _ _ _ hx => if_neg hx, fun _ ap own r => resolveFrom_eq_ok_iff _ ap own r,
    fun _ ap own => resolveFrom_eq_addressLoop_iff _ ap own⟩

end Sys2Proof.Machine
end

section
/-!
PROOFS. Full-word moves (spec/40_fullword_move.md): the move family through the one-operand modes, EXCH, the block
transfer by induction on its words, and the double-word moves. A negation is a subtraction from 0, whose two carries
are comparisons of the operand with 0 at both widths of the arithmetic unit.
-/

namespace Sys2Proof

-- Words of the rules' examples

/-- Whether a word decodes to an instruction can be read off the encoder, which needs no search of the dispatch table. -/
theorem decode_of_encode {w : Word} {i : Instr} (hi : i.wellFormed = true) (h : encode i = w) : decode w = i :=
  h ▸ roundTrip i hi

/-- Settles O3: each word is the encoding of its instruction. -/
theorem exampleWordsDecode : Obligations.ExampleWordsDecode := by
  and_intros <;> exact decode_of_encode rfl rfl

end Sys2Proof

namespace Sys2Proof.Machine

-- Subtraction by complement and carry in (R151, R152), at any width

theorem complement_mod_two_pow {k b : Nat} (hb : b < 2 ^ (k + 1)) :
    (2 ^ (k + 1) - 1 - b) % 2 ^ k = 2 ^ k - 1 - b % 2 ^ k := by
  rw [Nat.pow_succ] at hb ⊢
  by_cases hlow : b < 2 ^ k
  · rw [Nat.mod_eq_of_lt hlow, Nat.mod_eq_sub_mod (by omega), Nat.mod_eq_of_lt (by omega)]
    omega
  · rw [Nat.mod_eq_sub_mod (Nat.le_of_not_lt hlow), Nat.mod_eq_of_lt (by omega), Nat.mod_eq_of_lt (by omega)]
    omega

/-- Adding the complement and one: the wrapped difference, with a carry out of a position just where the bits below it
leave no borrow. -/
theorem addFlagged_complement (k a : Nat) {b : Nat} (hb : b < 2 ^ (k + 1)) :
    addFlagged (k + 1) a (2 ^ (k + 1) - 1 - b) 1 =
      ((2 ^ (k + 1) - b + a) % 2 ^ (k + 1), carryFlags (decide (b ≤ a)) (decide (b % 2 ^ k ≤ a % 2 ^ k))) := by
  have hsum : a + (2 ^ (k + 1) - 1 - b) + 1 = 2 ^ (k + 1) - b + a := by omega
  have hout : 2 ^ (k + 1) ≤ 2 ^ (k + 1) - b + a ↔ b ≤ a := by omega
  have hlow : b % 2 ^ k < 2 ^ k := Nat.mod_lt _ (Nat.two_pow_pos k)
  have hinto : 2 ^ k ≤ a % 2 ^ k + (2 ^ k - 1 - b % 2 ^ k) + 1 ↔ b % 2 ^ k ≤ a % 2 ^ k := by omega
  simp only [addFlagged, Nat.add_sub_cancel, complement_mod_two_pow hb, hsum, hout, hinto]

theorem sub36_eq (a b : Word) :
    sub36 a b = (a - b, carryFlags (decide (b.toNat ≤ a.toNat)) (decide (b.toNat % 2 ^ 35 ≤ a.toNat % 2 ^ 35))) := by
  rw [sub36, addFlagged_complement 35 _ b.isLt, ← BitVec.toNat_sub]
  simp only [BitVec.ofNat_toNat, BitVec.setWidth_eq]

theorem sub71_eq (a b : BitVec 71) :
    sub71 a b = (a - b, carryFlags (decide (b.toNat ≤ a.toNat)) (decide (b.toNat % 2 ^ 70 ≤ a.toNat % 2 ^ 70))) := by
  rw [sub71, addFlagged_complement 70 _ b.isLt, ← BitVec.toNat_sub]
  simp only [BitVec.ofNat_toNat, BitVec.setWidth_eq]

-- Negation (R151, R152)

/-- The carries of a subtraction from 0: both for 0, the one into the sign for the most negative number, else none. -/
theorem carryFlags_zero_sub {k n : Nat} (hn : n < 2 ^ (k + 1)) :
    carryFlags (decide (n ≤ 0)) (decide (n % 2 ^ k ≤ 0 % 2 ^ k)) =
      if n = 0 then flagMask [.cry0, .cry1] else if n = 2 ^ k then flagMask [.aov, .tr1, .cry1] else 0 := by
  simp only [Nat.zero_mod, Nat.le_zero]
  by_cases hzero : n = 0
  · have hlow : n % 2 ^ k = 0 := by rw [hzero, Nat.zero_mod]
    rw [if_pos hzero, decide_eq_true hzero, decide_eq_true hlow]
    rfl
  · by_cases hmin : n = 2 ^ k
    · have hlow : n % 2 ^ k = 0 := by rw [hmin, Nat.mod_self]
      rw [if_neg hzero, if_pos hmin, decide_eq_false hzero, decide_eq_true hlow]
      rfl
    · have hlow : n % 2 ^ k ≠ 0 := by
        intro h
        obtain ⟨q, rfl⟩ := Nat.dvd_of_mod_eq_zero h
        have hq : q < 2 := Nat.lt_of_mul_lt_mul_left (by rwa [Nat.pow_succ] at hn)
        interval_cases q
        · exact hzero (Nat.mul_zero _)
        · exact hmin (Nat.mul_one _)
      rw [if_neg hzero, if_neg hmin, decide_eq_false hzero, decide_eq_false hlow]
      rfl

theorem neg36_eq (a : Word) : neg36 a = (-a, negationFlags a) := by
  have hzero : a = 0 ↔ a.toNat = 0 := BitVec.toNat_inj.symm
  have hmin : a = 0o400000000000 ↔ a.toNat = 2 ^ 35 := BitVec.toNat_inj.symm
  rw [neg36, sub36_eq, negationFlags]
  simp only [hzero, hmin]
  exact congrArg₂ Prod.mk (BitVec.zero_sub a) (carryFlags_zero_sub a.isLt)

theorem neg71_eq (a : BitVec 71) : neg71 a = (-a, doubleNegationFlags a.toInt) := by
  have ha := a.isLt
  have hzero : a.toInt = 0 ↔ a.toNat = 0 := by rw [BitVec.toInt_eq_toNat_cond]; omega
  have hmin : a.toInt = -(2 ^ 70) ↔ a.toNat = 2 ^ 70 := by rw [BitVec.toInt_eq_toNat_cond]; omega
  rw [neg71, sub71_eq, doubleNegationFlags]
  simp only [hzero, hmin]
  exact congrArg₂ Prod.mk (BitVec.zero_sub a) (carryFlags_zero_sub ha)

theorem toInt_neg_eq_doubleNegation (a : BitVec 71) : (-a).toInt = doubleNegation a.toInt := by
  have hmin : a = BitVec.intMin 71 ↔ a.toInt = -(2 ^ 70) := BitVec.toInt_inj.symm
  rw [BitVec.toInt_neg_eq_ite, doubleNegation]
  simp only [hmin]

theorem magnitude36_of_neg {a : Word} (h : a.toInt < 0) : magnitude36 a = (-a, negationFlags a) := by
  have hsign : a.msb = true := by rwa [BitVec.msb_eq_toInt, decide_eq_true_eq]
  rw [magnitude36, if_pos hsign, neg36_eq]

theorem magnitude36_of_nonneg {a : Word} (h : 0 ≤ a.toInt) : magnitude36 a = (a, 0) := by
  have hsign : ¬ a.msb = true := by rw [BitVec.msb_eq_toInt, decide_eq_true_eq]; omega
  rw [magnitude36, if_neg hsign]

-- Double words (R153)

/-- A double word holds a number of 71 bits. -/
theorem unpack72_bounds (h l : Word) : -(2 ^ 70) ≤ unpack72 h l ∧ unpack72 h l < 2 ^ 70 := by
  have hlow : low35 l < 2 ^ 35 := Nat.mod_lt _ (Nat.two_pow_pos 35)
  have hge := BitVec.le_toInt h
  have hlt := BitVec.toInt_lt (x := h)
  simp only [unpack72]
  omega

theorem negateDouble_eq {h l : Word} {v : Int} (hv : v = unpack72 h l) :
    negateDouble h l = (pack72 (doubleNegation v), doubleNegationFlags v) := by
  obtain ⟨hge, hlt⟩ := unpack72_bounds h l
  have hself : (BitVec.ofInt 71 (unpack72 h l)).toInt = v := by
    rw [hv]
    exact BitVec.toInt_ofInt_eq_self (by decide) hge hlt
  rw [negateDouble, neg71_eq, toInt_neg_eq_doubleNegation, hself]

-- The move family through its modes

variable {s t : State} {m : AddrPart} {e : Offset} {ac : AcNum}

section
variable {i : Instr} {f : Word → Word × BitVec 13} {v : Word} {k g : BitVec 13}

/-- An instruction of mode basic whose function makes `v` of its operand and sets the flags `k`. -/
theorem completes_unaryBasic (hi : exec i s = unaryBasic f ac m s) (he : s.effective m = .ok e)
    (hp : s.present (s.sec e) = true) (hf : f (s.peek (s.sec e)) = (v, k)) (hg : s.flags ||| k = g) :
    Completes i s [(acAddr ac, v)] g s.returnPC := by
  have hdoes := does_unaryBasic (ac := ac) f he hp
  rwa [hf, hg, ← hi] at hdoes

theorem completes_unaryImmediate (hi : exec i s = unaryImmediate f ac m s) (he : s.effective m = .ok e)
    (hf : f (immediate e) = (v, k)) (hg : s.flags ||| k = g) : Completes i s [(acAddr ac, v)] g s.returnPC := by
  have hdoes := does_unaryImmediate (ac := ac) f he
  rwa [hf, hg, ← hi] at hdoes

theorem completes_unaryMemory (hi : exec i s = unaryMemory f ac m s) (he : s.effective m = .ok e)
    (hp : s.present (s.sec e) = true) (hf : f (s.ac ac) = (v, k)) (hg : s.flags ||| k = g) :
    Completes i s [(s.sec e, v)] g s.returnPC := by
  have hdoes := does_unaryMemory (ac := ac) f he hp
  rwa [hf, hg, ← hi] at hdoes

theorem completes_unarySelf (hi : exec i s = unarySelf f ac m s) (he : s.effective m = .ok e)
    (hp : s.present (s.sec e) = true) (hf : f (s.peek (s.sec e)) = (v, k)) (hg : s.flags ||| k = g) :
    Completes i s ((s.sec e, v) :: whenWritten (ac ≠ 0) (acAddr ac, v)) g s.returnPC := by
  have hdoes := does_unarySelf (ac := ac) f he hp
  rwa [hf, hg, ← hi] at hdoes

end

/-- Settles O27: each instruction is its mode with its function filled in, and an immediate operand is never
negative. -/
theorem movesToAccumulator : Obligations.MovesToAccumulator := by
  refine ⟨fun ac m => ?_, fun s ac m e he => ⟨?_, ?_⟩⟩
  · simp only [opcodes_cons, opcodes_nil, and_true]
    and_intros <;> exact opField_of_basic rfl
  · rintro hp v rfl
    exact ⟨completes_unaryBasic rfl he hp rfl BitVec.or_zero,
      completes_unaryBasic rfl he hp rfl BitVec.or_zero,
      completes_unaryBasic rfl he hp (neg36_eq _) rfl,
      fun hneg => completes_unaryBasic rfl he hp (magnitude36_of_neg hneg) rfl,
      fun hnonneg => completes_unaryBasic rfl he hp (magnitude36_of_nonneg hnonneg) BitVec.or_zero⟩
  · have hnonneg : 0 ≤ (immediate e).toInt := by
      rw [immediate_toInt]
      exact Int.natCast_nonneg _
    have hswapped : swapped (immediate e) = (e ++ (0#18), 0) := by rw [swapped, swapHalves_immediate]
    exact ⟨completes_unaryImmediate rfl he rfl BitVec.or_zero,
      completes_unaryImmediate rfl he hswapped BitVec.or_zero,
      completes_unaryImmediate rfl he (neg36_eq _) rfl,
      completes_unaryImmediate rfl he (magnitude36_of_nonneg hnonneg) BitVec.or_zero⟩

/-- Settles O28: as O27, with the accumulator's word or the word at E as the operand. -/
theorem movesToMemory : Obligations.MovesToMemory := by
  refine ⟨fun ac m => ?_, fun s ac m e he hp => ⟨?_, ?_⟩⟩
  · simp only [opcodes_cons, opcodes_nil, and_true]
    and_intros <;> exact opField_of_basic rfl
  · rintro v rfl
    exact ⟨completes_unaryMemory rfl he hp rfl BitVec.or_zero,
      completes_unaryMemory rfl he hp rfl BitVec.or_zero,
      completes_unaryMemory rfl he hp (neg36_eq _) rfl,
      fun hneg => completes_unaryMemory rfl he hp (magnitude36_of_neg hneg) rfl,
      fun hnonneg => completes_unaryMemory rfl he hp (magnitude36_of_nonneg hnonneg) BitVec.or_zero⟩
  · rintro v rfl
    exact ⟨completes_unarySelf rfl he hp rfl BitVec.or_zero,
      completes_unarySelf rfl he hp rfl BitVec.or_zero,
      completes_unarySelf rfl he hp (neg36_eq _) rfl,
      fun hneg => completes_unarySelf rfl he hp (magnitude36_of_neg hneg) rfl,
      fun hnonneg => completes_unarySelf rfl he hp (magnitude36_of_nonneg hnonneg) BitVec.or_zero⟩

-- EXCH and BLT

theorem does_execExch (he : s.effective m = .ok e) (hp : s.present (s.sec e) = true) :
    Does (execExch ac m s) s [(s.sec e, s.ac ac), (acAddr ac, s.peek (s.sec e))] s.flags s.returnPC :=
  does_finish_ok (by simp only [bind, Except.bind, operand_ok he hp, writeMem_ok _ hp]; rfl)
    (effect_normal (effect_setAc (effect_poke (effect_refl s) _ _) _ _))

/-- The words a block transfer of `n` words reads and writes all exist. -/
def State.BlockPresent (s : State) (n : Nat) (src dst : Offset) : Prop :=
  ∀ k < n, s.present (s.sec (src + BitVec.ofNat 18 k)) = true ∧ s.present (s.sec (dst + BitVec.ofNat 18 k)) = true

theorem add_ofNat_succ (o : Offset) (k : Nat) : o + BitVec.ofNat 18 (k + 1) = o + 1 + BitVec.ofNat 18 k := by
  rw [BitVec.add_assoc, Nat.add_comm, BitVec.ofNat_add]
  rfl

theorem blockPresent_succ {n : Nat} {src dst : Offset} (h : s.BlockPresent (n + 1) src dst) :
    s.present (s.sec src) = true ∧ s.present (s.sec dst) = true ∧ s.BlockPresent n (src + 1) (dst + 1) := by
  obtain ⟨hsrc, hdst⟩ := h 0 (Nat.succ_pos n)
  refine ⟨by simpa using hsrc, by simpa using hdst, fun k hk => ?_⟩
  simpa only [add_ofNat_succ] using h (k + 1) (Nat.succ_lt_succ hk)

/-- A block transfer in the middle of an instruction, after the writes `ws`: it reads what storage holds by then, and
adds its own writes. -/
theorem effect_copyBlock {n : Nat} {src dst : Offset} {ws : List (VAddr × Word)} {f : BitVec 13}
    (ht : Effect s t ws f s.pc) (hp : s.BlockPresent n src dst) :
    ∃ u, t.copyBlock n src dst = .ok u ∧ Effect s u (ws ++ blockWrites s.sec n t.peek src dst) f s.pc := by
  induction n generalizing t src dst ws with
  | zero => exact ⟨t, rfl, by simpa [blockWrites] using ht⟩
  | succ n ih =>
    obtain ⟨hsrc, hdst, hrest⟩ := blockPresent_succ hp
    have hread : t.readMem (s.sec src) = .ok (t.peek (s.sec src)) := readMem_ok ((effect_present ht _).trans hsrc)
    have hwrite (v : Word) : t.writeMem (s.sec dst) v = .ok (t.poke (s.sec dst) v) :=
      writeMem_ok v ((effect_present ht _).trans hdst)
    obtain ⟨u, hu, heffect⟩ := ih (effect_poke ht (s.sec dst) (t.peek (s.sec src))) hrest
    refine ⟨u, ?_, ?_⟩
    · simpa only [State.copyBlock, sec_eq ht, hread, hwrite, bind, Except.bind] using hu
    · have hpeek := funext (peek_poke t (s.sec dst) (t.peek (s.sec src)))
      rwa [hpeek, List.append_assoc] at heffect

theorem does_execBlt (he : s.effective m = .ok e)
    (hp : s.BlockPresent (blockCount (rh (s.ac ac)) e) (lh (s.ac ac)) (rh (s.ac ac))) :
    Does (execBlt ac m s) s
      (blockWrites s.sec (blockCount (rh (s.ac ac)) e) s.peek (lh (s.ac ac)) (rh (s.ac ac)) ++
        [(acAddr ac, blockEnd (s.ac ac) (blockCount (rh (s.ac ac)) e))]) s.flags s.returnPC := by
  obtain ⟨u, hu, heffect⟩ := effect_copyBlock (effect_refl s) hp
  exact does_finish_ok (by simp only [bind, Except.bind, he, hu]; rfl) (effect_normal (effect_setAc heffect _ _))

/-- Settles O29: EXCH reads before it writes; BLT is the block transfer, then the accumulator. -/
theorem exchangeAndBlockTransferComplete : Obligations.ExchangeAndBlockTransferComplete := by
  refine ⟨fun ac m => ?_, fun s ac m e he => ⟨does_execExch he, ?_⟩⟩
  · simp only [opcodes_cons, opcodes_nil, and_true]
    and_intros <;> exact opField_of_basic rfl
  · rintro src dst n rfl rfl rfl hp
    exact does_execBlt he hp

-- Double-word moves

theorem does_execDmove (he : s.effective m = .ok e) (hp : s.present (s.sec e) = true)
    (hq : s.present (s.sec (e + 1)) = true) :
    Does (execDmove ac m s) s [(acAddr ac, s.peek (s.sec e)), (acAddr (ac + 1), s.peek (s.sec (e + 1)))] s.flags
      s.returnPC := by
  rw [← nextInSection_sec] at hq ⊢
  exact does_finish_ok (by simp only [bind, Except.bind, operand2_ok he hp hq]; rfl)
    (effect_normal (effect_setAcPair (effect_refl s) _ _))

theorem does_execDmovn (he : s.effective m = .ok e) (hp : s.present (s.sec e) = true)
    (hq : s.present (s.sec (e + 1)) = true) {r : (Word × Word) × BitVec 13}
    (hr : negateDouble (s.peek (s.sec e)) (s.peek (s.sec (e + 1))) = r) :
    Does (execDmovn ac m s) s [(acAddr ac, r.1.1), (acAddr (ac + 1), r.1.2)] (s.flags ||| r.2) s.returnPC := by
  rw [← nextInSection_sec] at hq hr
  exact does_finish_ok (by simp only [bind, Except.bind, operand2_ok he hp hq, hr]; rfl)
    (effect_normal (effect_setAcPair (effect_setFlags (effect_refl s) _) _ _))

/-- Two words stored at E and E + 1 (R51, R53). -/
theorem effect_writeMem2 {ws : List (VAddr × Word)} {f : BitVec 13} (ht : Effect s t ws f s.pc)
    (hp : s.present (s.sec e) = true) (hq : s.present (s.sec (e + 1)) = true) (v : Word × Word) :
    ∃ u, t.writeMem2 (s.sec e) v = .ok u ∧ Effect s u (ws ++ [(s.sec e, v.1), (s.sec (e + 1), v.2)]) f s.pc := by
  rw [← nextInSection_sec] at hq ⊢
  refine ⟨_, writeMem2_ok v ((effect_present ht _).trans hp) ((effect_present ht _).trans hq), ?_⟩
  have heffect := effect_poke (effect_poke ht (s.sec e) v.1) (nextInSection (s.sec e)) v.2
  rwa [List.append_assoc] at heffect

theorem does_execDmovem (he : s.effective m = .ok e) (hp : s.present (s.sec e) = true)
    (hq : s.present (s.sec (e + 1)) = true) :
    Does (execDmovem ac m s) s [(s.sec e, s.ac ac), (s.sec (e + 1), s.ac (ac + 1))] s.flags s.returnPC := by
  obtain ⟨u, hu, heffect⟩ := effect_writeMem2 (effect_refl s) hp hq (s.ac ac, s.ac (ac + 1))
  exact does_finish_ok (by simp only [bind, Except.bind, he, hu]; rfl) (effect_normal heffect)

theorem does_execDmovnm (he : s.effective m = .ok e) (hp : s.present (s.sec e) = true)
    (hq : s.present (s.sec (e + 1)) = true) {r : (Word × Word) × BitVec 13}
    (hr : negateDouble (s.ac ac) (s.ac (ac + 1)) = r) :
    Does (execDmovnm ac m s) s [(s.sec e, r.1.1), (s.sec (e + 1), r.1.2)] (s.flags ||| r.2) s.returnPC := by
  obtain ⟨u, hu, heffect⟩ := effect_writeMem2 (effect_setFlags (effect_refl s) r.2) hp hq r.1
  exact does_finish_ok (by simp only [bind, Except.bind, he, hr, hu]; rfl) (effect_normal heffect)

/-- Settles O30: the four by their meanings, the negation by its value and flags. -/
theorem doubleMovesCompleteSo : Obligations.DoubleMovesCompleteSo := by
  refine ⟨fun ac m => ?_, fun s ac m e he hp hq => ⟨does_execDmove he hp hq, does_execDmovem he hp hq,
    fun v hv => does_execDmovn he hp hq (negateDouble_eq hv),
    fun v hv => does_execDmovnm he hp hq (negateDouble_eq hv)⟩⟩
  simp only [opcodes_cons, opcodes_nil, and_true]
  and_intros <;> exact opField_of_basic rfl

end Sys2Proof.Machine
end

section
/-!
PROOFS. Fixed-point arithmetic (spec/41_fixed_arithmetic.md). The flags of a sum or a difference are read off its two
carries, and at any width the carries are comparisons of the signed result with the range of the word; packing and
unpacking work one 35-bit digit at a time; the quotient is the only one with a remainder below the divisor.
-/

namespace Sys2Proof.Machine

-- The flags of two carries (R150)

/-- A set of flags is the two carries, and the overflow where they differ. -/
theorem hasFlag_carryFlags (c0 c1 : Bool) (f : Flag) :
    hasFlag (carryFlags c0 c1) f = (match f with
      | .cry0 => c0
      | .cry1 => c1
      | .aov => c0 != c1
      | .tr1 => c0 != c1
      | _ => false) := by
  cases c0 <;> cases c1 <;> cases f <;> rfl

/-- The four sets of flags that a sum can set, by the two carries. -/
theorem carryFlags_eq_ite (c0 c1 : Prop) [Decidable c0] [Decidable c1] :
    carryFlags (decide c0) (decide c1) =
      if c0 ∧ ¬ c1 then flagMask [.tr1, .aov, .cry0]
      else if c1 ∧ ¬ c0 then flagMask [.tr1, .aov, .cry1]
      else if c0 then flagMask [.cry0, .cry1]
      else 0 := by
  by_cases h0 : c0 <;> by_cases h1 : c1 <;> simp only [h0, h1] <;> rfl

-- Carries and signs at any width (R150, R151, R152)

section
variable {k : Nat}

theorem two_pow_cast : (2 : Int) ^ k = (2 ^ k : Nat) := (Int.natCast_pow 2 k).symm

/-- A number of `k + 1` bits from its sign and its `k` low bits. -/
theorem sign_and_low (a : BitVec (k + 1)) : a.toNat % 2 ^ k < 2 ^ k ∧
    ((a.toInt = (a.toNat % 2 ^ k : Nat) ∧ a.toNat = a.toNat % 2 ^ k) ∨
      (a.toInt = (a.toNat % 2 ^ k : Nat) - (2 ^ k : Nat) ∧ a.toNat = a.toNat % 2 ^ k + 2 ^ k)) := by
  refine ⟨Nat.mod_lt _ (Nat.two_pow_pos k), ?_⟩
  have ha := a.isLt
  rw [Nat.pow_succ] at ha
  rw [BitVec.toInt_eq_toNat_cond, Nat.pow_succ]
  by_cases hlow : a.toNat < 2 ^ k
  · rw [Nat.mod_eq_of_lt hlow, if_pos (by omega)]
    exact .inl ⟨rfl, rfl⟩
  · rw [Nat.mod_eq_sub_mod (Nat.le_of_not_lt hlow), Nat.mod_eq_of_lt (by omega), if_neg (by omega)]
    right
    constructor <;> omega

variable (a b : BitVec (k + 1))

/-- A sum leaves the range just when its two carries differ: below it with a carry out of the sign alone, above it with
a carry into the sign alone. -/
theorem sum_outside_iff :
    (a.toInt + b.toInt < -(2 ^ k) ↔
      2 ^ (k + 1) ≤ a.toNat + b.toNat ∧ ¬ 2 ^ k ≤ a.toNat % 2 ^ k + b.toNat % 2 ^ k) ∧
    (2 ^ k ≤ a.toInt + b.toInt ↔
      2 ^ k ≤ a.toNat % 2 ^ k + b.toNat % 2 ^ k ∧ ¬ 2 ^ (k + 1) ≤ a.toNat + b.toNat) := by
  rw [Nat.pow_succ, two_pow_cast]
  obtain ⟨ha, ⟨haInt, haNat⟩ | ⟨haInt, haNat⟩⟩ := sign_and_low a <;>
  obtain ⟨hb, ⟨hbInt, hbNat⟩ | ⟨hbInt, hbNat⟩⟩ := sign_and_low b <;>
  omega

/-- The same for a difference, whose carries are the comparisons that leave no borrow. -/
theorem difference_outside_iff :
    (a.toInt - b.toInt < -(2 ^ k) ↔ b.toNat ≤ a.toNat ∧ ¬ b.toNat % 2 ^ k ≤ a.toNat % 2 ^ k) ∧
    (2 ^ k ≤ a.toInt - b.toInt ↔ b.toNat % 2 ^ k ≤ a.toNat % 2 ^ k ∧ ¬ b.toNat ≤ a.toNat) := by
  rw [two_pow_cast]
  obtain ⟨ha, ⟨haInt, haNat⟩ | ⟨haInt, haNat⟩⟩ := sign_and_low a <;>
  obtain ⟨hb, ⟨hbInt, hbNat⟩ | ⟨hbInt, hbNat⟩⟩ := sign_and_low b <;>
  omega

/-- A sum carries out of the sign when both operands are negative, or one is and the sum is not. -/
theorem sum_carries_iff :
    2 ^ (k + 1) ≤ a.toNat + b.toNat ↔ (a.toInt < 0 ∧ b.toInt < 0) ∨
      ((a.toInt < 0 ∧ 0 ≤ b.toInt) ∨ (0 ≤ a.toInt ∧ b.toInt < 0)) ∧ 0 ≤ a.toInt + b.toInt := by
  rw [Nat.pow_succ]
  obtain ⟨ha, ⟨haInt, haNat⟩ | ⟨haInt, haNat⟩⟩ := sign_and_low a <;>
  obtain ⟨hb, ⟨hbInt, hbNat⟩ | ⟨hbInt, hbNat⟩⟩ := sign_and_low b <;>
  omega

end

-- The sums of the arithmetic unit

theorem add36_eq (a b : Word) :
    add36 a b = (a + b, carryFlags (decide (2 ^ 36 ≤ a.toNat + b.toNat))
      (decide (2 ^ 35 ≤ a.toNat % 2 ^ 35 + b.toNat % 2 ^ 35))) := by
  rw [add36, addFlagged, Nat.add_zero, ← BitVec.toNat_add, BitVec.ofNat_toNat, BitVec.setWidth_eq]
  rfl

theorem add71_eq (a b : BitVec 71) :
    add71 a b = (a + b, carryFlags (decide (2 ^ 71 ≤ a.toNat + b.toNat))
      (decide (2 ^ 70 ≤ a.toNat % 2 ^ 70 + b.toNat % 2 ^ 70))) := by
  rw [add71, addFlagged, Nat.add_zero, ← BitVec.toNat_add, BitVec.ofNat_toNat, BitVec.setWidth_eq]
  rfl

theorem ofInt_sub (w : Nat) (x y : Int) : BitVec.ofInt w (x - y) = BitVec.ofInt w x - BitVec.ofInt w y := by
  rw [Int.sub_eq_add_neg, BitVec.ofInt_add, BitVec.ofInt_neg, BitVec.sub_eq_add_neg]

/-- Settles O22: the flags by the carries are `hasFlag_carryFlags`, those of the signed table `carryFlags_eq_ite` with
each pair of carries read as a range of the sum. -/
theorem additionSetsFlags : Obligations.AdditionSetsFlags := by
  intro a b
  obtain ⟨hbelow, habove⟩ := sum_outside_iff (k := 35) a b
  rw [add36_eq]
  refine ⟨?_, hasFlag_carryFlags _ _, ?_⟩
  · rw [BitVec.ofInt_add, BitVec.ofInt_toInt, BitVec.ofInt_toInt]
  · rw [carryFlags_eq_ite, ← ite_or]
    exact if_congr hbelow.symm rfl (if_congr habove.symm rfl (if_congr (sum_carries_iff (k := 35) a b) rfl rfl))

/-- Settles O23: the flags are `carryFlags_eq_ite` with the two carries that differ read as ranges of the difference. -/
theorem subtractionSetsFlags : Obligations.SubtractionSetsFlags := by
  refine ⟨fun a b => ?_, neg36_eq, neg36_eq _, fun a b => ?_, fun a => ?_⟩
  · obtain ⟨hbelow, habove⟩ := difference_outside_iff (k := 35) a b
    rw [sub36_eq]
    refine ⟨?_, ?_⟩
    · rw [ofInt_sub, BitVec.ofInt_toInt, BitVec.ofInt_toInt]
    · rw [carryFlags_eq_ite]
      exact if_congr hbelow.symm rfl (if_congr habove.symm rfl rfl)
  · rw [add36_eq, sub36_eq]
    exact BitVec.add_sub_cancel a b
  · rw [neg36_eq, neg36_eq]
    exact BitVec.neg_neg

/-- Whether the carries differ, in terms of the two ways they can. -/
theorem bne_decide (c0 c1 : Prop) [Decidable c0] [Decidable c1] :
    (decide c0 != decide c1) = decide ((c0 ∧ ¬ c1) ∨ (c1 ∧ ¬ c0)) := by
  by_cases h0 : c0 <;> by_cases h1 : c1 <;> simp [h0, h1]

/-- A sum with two carries sets the overflow flags where the carries differ, and no flag but these and CRY0 and CRY1. -/
theorem overflow_carryFlags {c0 c1 below above : Prop} [Decidable c0] [Decidable c1] [Decidable below]
    [Decidable above] (hbelow : below ↔ c0 ∧ ¬ c1) (habove : above ↔ c1 ∧ ¬ c0) :
    (∀ f ∈ [Flag.aov, Flag.tr1], hasFlag (carryFlags (decide c0) (decide c1)) f = decide (below ∨ above)) ∧
    ∀ f ∈ [Flag.fov, .fpd, .usr, .uio, .pub, .afi, .tr2, .fxu, .ndv],
      hasFlag (carryFlags (decide c0) (decide c1)) f = false := by
  simp only [hasFlag_carryFlags, List.forall_mem_cons, bne_decide, hbelow, habove]
  simp

/-- Settles O24: as O22 and O23 at 71 bits; the negation is `neg71_eq`. -/
theorem doubleSumsSetFlags : Obligations.DoubleSumsSetFlags := by
  intro a b
  obtain ⟨hbelow, habove⟩ := sum_outside_iff (k := 70) a b
  obtain ⟨hbelow', habove'⟩ := difference_outside_iff (k := 70) a b
  rw [add71_eq, sub71_eq]
  exact ⟨⟨rfl, hasFlag_carryFlags _ _ .cry0, hasFlag_carryFlags _ _ .cry1, overflow_carryFlags hbelow habove⟩,
    ⟨rfl, hasFlag_carryFlags _ _ .cry0, hasFlag_carryFlags _ _ .cry1, overflow_carryFlags hbelow' habove'⟩,
    neg71_eq a⟩

-- Double and quadruple words (R153, R154), one digit of 35 bits at a time

theorem low35_lt (l : Word) : (low35 l : Int) < 2 ^ 35 :=
  Int.ofNat_lt.mpr (Nat.mod_lt _ (Nat.two_pow_pos 35))

theorem append_low35_div (x : Int) (l : Word) : (x * 2 ^ 35 + low35 l) / 2 ^ 35 = x := by
  have := low35_lt l
  omega

/-- The 35 low bits of a packed word are the digit of the number. -/
theorem low35_signedPiece (b : Bool) (v : Int) : (low35 (signedPiece b v) : Int) = v % 2 ^ 35 := by
  have hlow : low35 (signedPiece b v) = (BitVec.ofInt 35 v).toNat := by
    rw [low35, signedPiece, BitVec.toNat_append, Nat.or_mod_two_pow, Nat.shiftLeft_eq, Nat.mul_mod_left, Nat.zero_or]
    exact Nat.mod_eq_of_lt (BitVec.ofInt 35 v).isLt
  rw [hlow, BitVec.toNat_ofInt]
  omega

/-- A lower word put back as it was, but for bit 0. -/
theorem signedPiece_append_low35 (b : Bool) (x : Int) (l : Word) :
    signedPiece b (x * 2 ^ 35 + low35 l) = BitVec.ofBool b ++ l.extractLsb' 0 35 := by
  have hdigit : BitVec.ofInt 35 (x * 2 ^ 35 + low35 l) = l.extractLsb' 0 35 := by
    apply BitVec.eq_of_toNat_eq
    have := low35_lt l
    rw [BitVec.toNat_ofInt, BitVec.extractLsb'_toNat, Nat.shiftRight_zero, ← low35]
    omega
  rw [signedPiece, hdigit]

theorem unpack72_pack72 {v : Int} (hge : -(2 ^ 70) ≤ v) (hlt : v < 2 ^ 70) :
    unpack72 (pack72 v).1 (pack72 v).2 = v := by
  have hhigh : (BitVec.ofInt 36 (v / 2 ^ 35)).toInt = v / 2 ^ 35 :=
    BitVec.toInt_ofInt_eq_self (by decide) (by omega) (by omega)
  simp only [unpack72, pack72, hhigh, low35_signedPiece]
  exact Int.ediv_mul_add_emod v (2 ^ 35)

theorem pack72_unpack72 (h l : Word) : pack72 (unpack72 h l) = (h, BitVec.ofBool h.msb ++ l.extractLsb' 0 35) := by
  simp only [pack72, unpack72, append_low35_div, BitVec.ofInt_toInt, signedPiece_append_low35]

/-- A quadruple word is a double word with two digits more. -/
theorem unpack144_eq (w0 w1 w2 w3 : Word) :
    unpack144 w0 w1 w2 w3 = (unpack72 w0 w1 * 2 ^ 35 + low35 w2) * 2 ^ 35 + low35 w3 := by
  simp only [unpack144, unpack72]
  omega

theorem pack144_eq (v : Int) :
    pack144 v = ((pack72 (v / 2 ^ 35 / 2 ^ 35)).1, (pack72 (v / 2 ^ 35 / 2 ^ 35)).2,
      signedPiece (pack72 (v / 2 ^ 35 / 2 ^ 35)).1.msb (v / 2 ^ 35),
      signedPiece (pack72 (v / 2 ^ 35 / 2 ^ 35)).1.msb v) := by
  have hhigh : v / 2 ^ 105 = v / 2 ^ 35 / 2 ^ 35 / 2 ^ 35 := by omega
  have hnext : v / 2 ^ 70 = v / 2 ^ 35 / 2 ^ 35 := by omega
  rw [pack144, hhigh, hnext]
  rfl

theorem unpack144_pack144 {v : Int} (hge : -(2 ^ 140) ≤ v) (hlt : v < 2 ^ 140) :
    unpack144 (pack144 v).1 (pack144 v).2.1 (pack144 v).2.2.1 (pack144 v).2.2.2 = v := by
  have htop := unpack72_pack72 (v := v / 2 ^ 35 / 2 ^ 35) (by omega) (by omega)
  rw [unpack144_eq, pack144_eq]
  simp only [htop, low35_signedPiece, Int.ediv_mul_add_emod]

theorem pack144_unpack144 (w0 w1 w2 w3 : Word) :
    pack144 (unpack144 w0 w1 w2 w3) =
      (w0, BitVec.ofBool w0.msb ++ w1.extractLsb' 0 35, BitVec.ofBool w0.msb ++ w2.extractLsb' 0 35,
        BitVec.ofBool w0.msb ++ w3.extractLsb' 0 35) := by
  simp only [pack144_eq, unpack144_eq, append_low35_div, pack72_unpack72, signedPiece_append_low35]

/-- Settles O25: the round trips of a double word, and of a quadruple word by its digits. -/
theorem packedWordsRoundTrip : Obligations.PackedWordsRoundTrip := by
  refine ⟨fun v => unpack72_pack72, fun h l => ?_, rfl, fun v => unpack144_pack144, pack144_unpack144⟩
  obtain ⟨hge, hlt⟩ := unpack72_bounds h l
  exact ⟨hge, hlt, pack72_unpack72 h l⟩

-- Division (R157)

theorem divide_eq_none_iff {n d : Int} {k : Nat} : divide n d k = none ↔ d = 0 ∨ d.natAbs * 2 ^ k ≤ n.natAbs := by
  refine ⟨fun hnone => ?_, divide_eq_none⟩
  by_contra h
  obtain ⟨hd, hlt⟩ := not_or.mp h
  rw [divide_eq_some hd (Nat.lt_of_not_le hlt)] at hnone
  cases hnone

/-- The truncating quotient and remainder are the only pair whose remainder is smaller than the divisor and has the
sign of the dividend. -/
theorem tdiv_tmod_unique_of_sign {n d q r : Int} (hd : d ≠ 0) (hn : q * d + r = n) (hlt : r.natAbs < d.natAbs)
    (hsign : r = 0 ∨ r.sign = n.sign) : n.tdiv d = q ∧ n.tmod d = r := by
  have hsum : r + d * q = n := by rw [Int.add_comm, Int.mul_comm, hn]
  rcases Int.le_total 0 n with hpos | hneg
  · have hr : 0 ≤ r := hsign.elim (fun h => h.ge) fun h => by rwa [← Int.sign_nonneg_iff, h, Int.sign_nonneg_iff]
    exact (Int.tdiv_tmod_unique hpos hd).mpr ⟨hsum, hr, by omega⟩
  · have hr : r ≤ 0 := hsign.elim Int.le_of_eq fun h => by rwa [← Int.sign_nonpos_iff, h, Int.sign_nonpos_iff]
    exact (Int.tdiv_tmod_unique' hneg hd).mpr ⟨hsum, by omega, hr⟩

theorem tmod_eq_zero_or_sign_eq (n d : Int) : n.tmod d = 0 ∨ (n.tmod d).sign = n.sign := by
  rw [Int.sign_tmod]
  by_cases h : d ∣ n
  · exact .inl (Int.tmod_eq_zero_of_dvd h)
  · exact .inr (if_neg h)

/-- Settles O26: `divide` is the truncating quotient and remainder where it answers, and there is no other such pair. -/
theorem divisionLaw : Obligations.DivisionLaw := by
  refine fun n d k => ⟨divide_eq_none_iff, fun q r hsome => ?_⟩
  have hdivide : ¬ (d = 0 ∨ d.natAbs * 2 ^ k ≤ n.natAbs) := by
    rw [← divide_eq_none_iff, hsome]
    exact nofun
  obtain ⟨hd, hlt⟩ := not_or.mp hdivide
  rw [divide_eq_some hd (Nat.lt_of_not_le hlt)] at hsome
  cases hsome
  refine ⟨Int.tdiv_mul_add_tmod n d, ?_, tmod_eq_zero_or_sign_eq n d, ?_, fun q' r' hn hr hs => ?_⟩
  · rw [Int.natAbs_tmod]
    exact Nat.mod_lt _ (Int.natAbs_pos.mpr hd)
  · rw [Int.natAbs_tdiv]
    exact Nat.div_lt_of_lt_mul (Nat.lt_of_not_le hlt)
  · obtain ⟨hq, hr⟩ := tdiv_tmod_unique_of_sign hd hn hr hs
    exact ⟨hq.symm, hr.symm⟩

-- The fixed-point instructions through their modes

variable {s : State} {m : AddrPart} {e : Offset} {ac : AcNum}

section
variable {i : Instr} {f : Word → Word → Word × BitVec 13} {v : Word} {k g : BitVec 13}

/-- An instruction of mode basic whose function makes `v` of the accumulator and its operand and sets the flags `k`. -/
theorem completes_binaryBasic (hi : exec i s = binaryBasic f ac m s) (he : s.effective m = .ok e)
    (hp : s.present (s.sec e) = true) (hf : f (s.ac ac) (s.peek (s.sec e)) = (v, k)) (hg : s.flags ||| k = g) :
    Completes i s [(acAddr ac, v)] g s.returnPC := by
  have hdoes := does_binaryBasic (ac := ac) f he hp
  rwa [hf, hg, ← hi] at hdoes

theorem completes_binaryImmediate (hi : exec i s = binaryImmediate f ac m s) (he : s.effective m = .ok e)
    (hf : f (s.ac ac) (immediate e) = (v, k)) (hg : s.flags ||| k = g) :
    Completes i s [(acAddr ac, v)] g s.returnPC := by
  have hdoes := does_binaryImmediate (ac := ac) f he
  rwa [hf, hg, ← hi] at hdoes

theorem completes_binaryMemory (hi : exec i s = binaryMemory f ac m s) (he : s.effective m = .ok e)
    (hp : s.present (s.sec e) = true) (hf : f (s.ac ac) (s.peek (s.sec e)) = (v, k)) (hg : s.flags ||| k = g) :
    Completes i s [(s.sec e, v)] g s.returnPC := by
  have hdoes := does_binaryMemory (ac := ac) f he hp
  rwa [hf, hg, ← hi] at hdoes

theorem completes_binaryBoth (hi : exec i s = binaryBoth f ac m s) (he : s.effective m = .ok e)
    (hp : s.present (s.sec e) = true) (hf : f (s.ac ac) (s.peek (s.sec e)) = (v, k)) (hg : s.flags ||| k = g) :
    Completes i s [(s.sec e, v), (acAddr ac, v)] g s.returnPC := by
  have hdoes := does_binaryBoth (ac := ac) f he hp
  rwa [hf, hg, ← hi] at hdoes

end

section
variable {i : Instr} {f : Word → Word → (Word × Word) × BitVec 13} {w : Word × Word} {k g : BitVec 13}

/-- The same for a function whose result is two words. -/
theorem completes_pairBasic (hi : exec i s = pairBasic f ac m s) (he : s.effective m = .ok e)
    (hp : s.present (s.sec e) = true) (hf : f (s.ac ac) (s.peek (s.sec e)) = (w, k)) (hg : s.flags ||| k = g) :
    Completes i s [(acAddr ac, w.1), (acAddr (ac + 1), w.2)] g s.returnPC := by
  have hdoes := does_pairBasic (ac := ac) f he hp
  rwa [hf, hg, ← hi] at hdoes

theorem completes_pairImmediate (hi : exec i s = pairImmediate f ac m s) (he : s.effective m = .ok e)
    (hf : f (s.ac ac) (immediate e) = (w, k)) (hg : s.flags ||| k = g) :
    Completes i s [(acAddr ac, w.1), (acAddr (ac + 1), w.2)] g s.returnPC := by
  have hdoes := does_pairImmediate (ac := ac) f he
  rwa [hf, hg, ← hi] at hdoes

theorem completes_pairMemory (hi : exec i s = pairMemory f ac m s) (he : s.effective m = .ok e)
    (hp : s.present (s.sec e) = true) (hf : f (s.ac ac) (s.peek (s.sec e)) = (w, k)) (hg : s.flags ||| k = g) :
    Completes i s [(s.sec e, w.1)] g s.returnPC := by
  have hdoes := does_pairMemory (ac := ac) f he hp
  rwa [hf, hg, ← hi] at hdoes

theorem completes_pairBoth (hi : exec i s = pairBoth f ac m s) (he : s.effective m = .ok e)
    (hp : s.present (s.sec e) = true) (hf : f (s.ac ac) (s.peek (s.sec e)) = (w, k)) (hg : s.flags ||| k = g) :
    Completes i s [(s.sec e, w.1), (acAddr ac, w.1), (acAddr (ac + 1), w.2)] g s.returnPC := by
  have hdoes := does_pairBoth (ac := ac) f he hp
  rwa [hf, hg, ← hi] at hdoes

end

theorem add36_sum (a b : Word) : add36 a b = (a + b, (add36 a b).2) := by
  rw [add36_eq]

theorem sub36_difference (a b : Word) : sub36 a b = (a - b, (sub36 a b).2) := by
  rw [sub36_eq]

/-- Settles O31: each instruction is its mode with `add36` or `sub36` filled in. -/
theorem addAndSubtractComplete : Obligations.AddAndSubtractComplete := by
  refine ⟨fun ac m => ?_, ?_⟩
  · simp only [opcodes_cons, opcodes_nil, and_true]
    and_intros <;> exact opField_of_basic rfl
  · rintro s ac m e he a rfl
    constructor
    · rintro b rfl
      exact ⟨completes_binaryImmediate rfl he (add36_sum _ _) rfl,
        completes_binaryImmediate rfl he (sub36_difference _ _) rfl⟩
    · rintro hp b rfl
      exact ⟨completes_binaryBasic rfl he hp (add36_sum _ _) rfl,
        completes_binaryMemory rfl he hp (add36_sum _ _) rfl,
        completes_binaryBoth rfl he hp (add36_sum _ _) rfl,
        completes_binaryBasic rfl he hp (sub36_difference _ _) rfl,
        completes_binaryMemory rfl he hp (sub36_difference _ _) rfl,
        completes_binaryBoth rfl he hp (sub36_difference _ _) rfl⟩

/-- Flags set when a condition holds (R26). -/
theorem or_ite_flagMask (s : State) (c : Prop) [Decidable c] (l : List Flag) :
    s.flags ||| (if c then flagMask l else 0) = flagsIf s c l := by
  unfold flagsIf
  split
  · rfl
  · exact BitVec.or_zero

/-- Settles O32: each instruction is its mode with the product of MUL or IMUL filled in. -/
theorem multiplyCompletes : Obligations.MultiplyCompletes := by
  refine ⟨fun ac m => ?_, ?_⟩
  · simp only [opcodes_cons, opcodes_nil, and_true]
    and_intros <;> exact opField_of_basic rfl
  · rintro s ac m e he b w fl rfl rfl
    have hflags : s.flags ||| mulFlags (s.ac ac) b = _ := or_ite_flagMask s _ [.aov, .tr1]
    constructor
    · rintro rfl
      exact ⟨completes_binaryImmediate rfl he rfl hflags, completes_pairImmediate rfl he rfl hflags⟩
    · rintro hp rfl
      exact ⟨completes_binaryBasic rfl he hp rfl hflags, completes_binaryMemory rfl he hp rfl hflags,
        completes_binaryBoth rfl he hp rfl hflags, completes_pairBasic rfl he hp rfl hflags,
        completes_pairMemory rfl he hp rfl hflags, completes_pairBoth rfl he hp rfl hflags⟩

-- IDIV and DIV

/-- The instructions of a row are the four modes of division, with a dividend taken from the accumulators. -/
structure DividesBy (row : Modes) (dividend : State → AcNum → Int) : Prop where
  basic : ∀ ac m s, exec (row.basic ac m) s = divideBasic (dividend s ac) ac m s
  immediate : ∀ ac m s, exec (row.immediate ac m) s = divideImmediate (dividend s ac) ac m s
  memory : ∀ ac m s, exec (row.memory ac m) s = divideMemory (dividend s ac) m s
  both : ∀ ac m s, exec (row.both ac m) s = divideBoth (dividend s ac) ac m s

theorem idiv_dividesBy : DividesBy ⟨.idiv, .idivi, .idivm, .idivb⟩ State.dividend1 :=
  ⟨fun _ _ _ => rfl, fun _ _ _ => rfl, fun _ _ _ => rfl, fun _ _ _ => rfl⟩

theorem div_dividesBy : DividesBy ⟨.div, .divi, .divm, .divb⟩ State.dividend2 :=
  ⟨fun _ _ _ => rfl, fun _ _ _ => rfl, fun _ _ _ => rfl, fun _ _ _ => rfl⟩

section
variable {row : Modes} {dividend : State → AcNum → Int} {n d : Int}

/-- A division that is possible stores its quotient and its remainder by mode and leaves FLAGS. -/
theorem completes_divide_possible (hrow : DividesBy row dividend) (he : s.effective m = .ok e) {q r : Word}
    (hd : d ≠ 0) (hlt : n.natAbs < d.natAbs * 2 ^ 35) (hq : q = BitVec.ofInt 36 (n.tdiv d))
    (hr : r = BitVec.ofInt 36 (n.tmod d)) (hn : n = dividend s ac) :
    (d = e.toNat → Completes (row.immediate ac m) s [(acAddr ac, q), (acAddr (ac + 1), r)] s.flags s.returnPC) ∧
    (s.present (s.sec e) = true → d = (s.peek (s.sec e)).toInt →
      Completes (row.basic ac m) s [(acAddr ac, q), (acAddr (ac + 1), r)] s.flags s.returnPC ∧
      Completes (row.memory ac m) s [(s.sec e, q)] s.flags s.returnPC ∧
      Completes (row.both ac m) s [(s.sec e, q), (acAddr ac, q), (acAddr (ac + 1), r)] s.flags s.returnPC) := by
  subst hn hq hr
  have hdivide := divide_eq_some hd hlt
  simp only [Completes, hrow.basic, hrow.immediate, hrow.memory, hrow.both]
  constructor
  · rintro rfl
    rw [← immediate_toInt] at hdivide ⊢
    exact does_divideImmediate he hdivide
  · rintro hp rfl
    exact ⟨does_divideBasic he hp hdivide, does_divideMemory he hp hdivide, does_divideBoth he hp hdivide⟩

/-- A division that is not possible sets its flags and writes nothing (R157). -/
theorem completes_divide_impossible (hrow : DividesBy row dividend) (he : s.effective m = .ok e)
    (hnone : d = 0 ∨ d.natAbs * 2 ^ 35 ≤ n.natAbs) {fl : BitVec 13}
    (hfl : fl = s.flags ||| flagMask [.ndv, .tr1, .aov]) (hn : n = dividend s ac) :
    (d = e.toNat → Completes (row.immediate ac m) s [] fl s.returnPC) ∧
    (s.present (s.sec e) = true → d = (s.peek (s.sec e)).toInt →
      Completes (row.basic ac m) s [] fl s.returnPC ∧ Completes (row.memory ac m) s [] fl s.returnPC ∧
      Completes (row.both ac m) s [] fl s.returnPC) := by
  subst hn hfl
  have hdivide := divide_eq_none hnone
  obtain ⟨himmediate, hmemory⟩ := does_divide_none (ac := ac) (n := dividend s ac) he
  simp only [Completes, hrow.basic, hrow.immediate, hrow.memory, hrow.both]
  constructor
  · rintro rfl
    rw [← immediate_toInt] at hdivide
    exact himmediate hdivide
  · rintro hp rfl
    exact hmemory hp hdivide

end

/-- Settles O33: IDIV and DIV are one row of modes each, which differ in the dividend. -/
theorem divideCompletes : Obligations.DivideCompletes := by
  refine ⟨fun ac m => ?_, fun s ac m e he =>
    ⟨fun n d q r hd hlt hq hr => ⟨completes_divide_possible idiv_dividesBy he hd hlt hq hr,
      completes_divide_possible div_dividesBy he hd hlt hq hr⟩,
    fun n d fl hnone hfl => ⟨completes_divide_impossible idiv_dividesBy he hnone hfl,
      completes_divide_impossible div_dividesBy he hnone hfl⟩⟩⟩
  simp only [opcodes_cons, opcodes_nil, and_true]
  and_intros <;> exact opField_of_basic rfl

-- DADD, DSUB, DMUL and DDIV

theorem doubleSum_add71 (a b : Int) :
    doubleSum add71 a b = (pack72 ((a + b).bmod (2 ^ 71)), (add71 (BitVec.ofInt 71 a) (BitVec.ofInt 71 b)).2) := by
  rw [doubleSum, add71_eq, ← BitVec.ofInt_add, BitVec.toInt_ofInt]

theorem doubleSum_sub71 (a b : Int) :
    doubleSum sub71 a b = (pack72 ((a - b).bmod (2 ^ 71)), (sub71 (BitVec.ofInt 71 a) (BitVec.ofInt 71 b)).2) := by
  rw [doubleSum, sub71_eq, ← ofInt_sub, BitVec.toInt_ofInt]

section
variable (he : s.effective m = .ok e) (hp : s.present (s.sec e) = true) (hq : s.present (s.sec (e + 1)) = true)
  {a b : Int} (hb : b = unpack72 (s.peek (s.sec e)) (s.peek (s.sec (e + 1))))
include he hp hq

/-- The double word at E and E + 1. -/
theorem operand2_sec : s.operand2 m = .ok (s.peek (s.sec e), s.peek (s.sec (e + 1))) := by
  rw [← nextInSection_sec] at hq ⊢
  exact operand2_ok he hp hq

include hb

theorem does_execDadd {r : (Word × Word) × BitVec 13} (hr : doubleSum add71 (s.dividend2 ac) b = r) :
    Does (execDadd ac m s) s [(acAddr ac, r.1.1), (acAddr (ac + 1), r.1.2)] (s.flags ||| r.2) s.returnPC := by
  subst hb hr
  exact does_finish_ok (by simp only [bind, Except.bind, operand2_sec he hp hq]; rfl)
    (effect_normal (effect_setAcPair (effect_setFlags (effect_refl s) _) _ _))

theorem does_execDsub {r : (Word × Word) × BitVec 13} (hr : doubleSum sub71 (s.dividend2 ac) b = r) :
    Does (execDsub ac m s) s [(acAddr ac, r.1.1), (acAddr (ac + 1), r.1.2)] (s.flags ||| r.2) s.returnPC := by
  subst hb hr
  exact does_finish_ok (by simp only [bind, Except.bind, operand2_sec he hp hq]; rfl)
    (effect_normal (effect_setAcPair (effect_setFlags (effect_refl s) _) _ _))

theorem does_execDmul (ha : a = s.dividend2 ac) {w : Word × Word × Word × Word} (hw : w = pack144 (a * b)) :
    Does (execDmul ac m s) s
      [(acAddr ac, w.1), (acAddr (ac + 1), w.2.1), (acAddr (ac + 2), w.2.2.1), (acAddr (ac + 3), w.2.2.2)]
      (s.flags ||| dmulFlags a b) s.returnPC := by
  subst ha hb hw
  exact does_finish_ok (by simp only [bind, Except.bind, operand2_sec he hp hq]; rfl)
    (effect_normal (effect_setAcQuad (effect_setFlags (effect_refl s) _) _ _))

theorem does_execDdiv {q : Int × Int} (hdivide : divide (s.dividend4 ac) b 70 = some q) :
    Does (execDdiv ac m s) s
      [(acAddr ac, (pack72 q.1).1), (acAddr (ac + 1), (pack72 q.1).2), (acAddr (ac + 2), (pack72 q.2).1),
        (acAddr (ac + 3), (pack72 q.2).2)] s.flags s.returnPC := by
  subst hb
  have hlast : ac + 2 + 1 = ac + 3 := BitVec.add_assoc ac 2 1
  have heffect := effect_setAcPair (effect_setAcPair (effect_refl s) ac (pack72 q.1)) (ac + 2) (pack72 q.2)
  rw [hlast] at heffect
  exact does_finish_ok (by simp only [bind, Except.bind, operand2_sec he hp hq, hdivide]; rfl) (effect_normal heffect)

theorem does_execDdiv_none (hdivide : divide (s.dividend4 ac) b 70 = none) :
    Does (execDdiv ac m s) s [] (s.flags ||| noDivideFlags) s.returnPC := by
  subst hb
  exact does_finish_ok (by simp only [bind, Except.bind, operand2_sec he hp hq, hdivide]; rfl) (effect_noDivideNext s)

end

/-- Settles O34: the four by their meanings, with the sums wrapped and the division possible or not. -/
theorem doubleArithmeticCompletes : Obligations.DoubleArithmeticCompletes := by
  refine ⟨fun ac m => ?_, fun s ac m e he hp hq a b ha hb => ⟨?_, ?_, ?_, ?_, ?_⟩⟩
  · simp only [opcodes_cons, opcodes_nil, and_true]
    and_intros <;> exact opField_of_basic rfl
  · rintro w rfl
    rw [ha]
    exact does_execDadd he hp hq hb (doubleSum_add71 _ _)
  · rintro w rfl
    rw [ha]
    exact does_execDsub he hp hq hb (doubleSum_sub71 _ _)
  · intro w hw
    rw [← or_ite_flagMask]
    exact does_execDmul he hp hq hb ha hw
  · rintro n rfl hd hlt q r rfl rfl
    exact does_execDdiv he hp hq hb (divide_eq_some hd hlt)
  · rintro n rfl hnone
    exact does_execDdiv_none he hp hq hb (divide_eq_none hnone)

end Sys2Proof.Machine
end

section
/-!
PROOFS. The boolean family (spec/42_boolean.md). Every row of the truth table is a bitwise function in the four
two-operand modes, so a word whose bits are the table's is the word the function makes.
-/

namespace Sys2Proof.Machine

-- The sixteen functions bit by bit (R200)

/-- The function `f` of words is the boolean function of number `fn` at each of the 36 bits. -/
def FollowsTruthTable (fn : BitVec 4) (f : Word → Word → Word) : Prop :=
  ∀ (a b : Word), ∀ k < 36, (f a b).getLsbD k = truthBit fn (a.getLsbD k) (b.getLsbD k)

/-- A function that is `g` at each bit follows the truth table when the table's four entries are those of `g`. -/
theorem followsTruthTable_of_bitwise {fn : BitVec 4} {f : Word → Word → Word} (g : Bool → Bool → Bool)
    (hbits : ∀ (a b : Word), ∀ k < 36, (f a b).getLsbD k = g (a.getLsbD k) (b.getLsbD k))
    (htable : ∀ p q, g p q = truthBit fn p q) : FollowsTruthTable fn f := fun a b k hk =>
  (hbits a b k hk).trans (htable _ _)

theorem zeroFn_followsTruthTable : FollowsTruthTable 0 zeroFn :=
  followsTruthTable_of_bitwise (fun _ _ => false) (fun _ _ _ _ => BitVec.getLsbD_zero) (by decide)

theorem andFn_followsTruthTable : FollowsTruthTable 1 andFn :=
  followsTruthTable_of_bitwise (fun p q => p && q) (fun _ _ _ _ => BitVec.getLsbD_and) (by decide)

theorem andcaFn_followsTruthTable : FollowsTruthTable 2 andcaFn :=
  followsTruthTable_of_bitwise (fun p q => !p && q) (fun a b k hk => by simp [andcaFn, hk]) (by decide)

theorem secondFn_followsTruthTable : FollowsTruthTable 3 secondFn :=
  followsTruthTable_of_bitwise (fun _ q => q) (fun _ _ _ _ => rfl) (by decide)

theorem andcmFn_followsTruthTable : FollowsTruthTable 4 andcmFn :=
  followsTruthTable_of_bitwise (fun p q => p && !q) (fun a b k hk => by simp [andcmFn, hk]) (by decide)

theorem firstFn_followsTruthTable : FollowsTruthTable 5 firstFn :=
  followsTruthTable_of_bitwise (fun p _ => p) (fun _ _ _ _ => rfl) (by decide)

theorem xorFn_followsTruthTable : FollowsTruthTable 6 xorFn :=
  followsTruthTable_of_bitwise (fun p q => p ^^ q) (fun _ _ _ _ => BitVec.getLsbD_xor) (by decide)

theorem iorFn_followsTruthTable : FollowsTruthTable 7 iorFn :=
  followsTruthTable_of_bitwise (fun p q => p || q) (fun _ _ _ _ => BitVec.getLsbD_or) (by decide)

theorem andcbFn_followsTruthTable : FollowsTruthTable 8 andcbFn :=
  followsTruthTable_of_bitwise (fun p q => !p && !q) (fun a b k hk => by simp [andcbFn, hk]) (by decide)

theorem eqvFn_followsTruthTable : FollowsTruthTable 9 eqvFn :=
  followsTruthTable_of_bitwise (fun p q => !(p ^^ q)) (fun a b k hk => by simp [eqvFn, hk]) (by decide)

theorem notFirstFn_followsTruthTable : FollowsTruthTable 10 notFirstFn :=
  followsTruthTable_of_bitwise (fun p _ => !p) (fun a b k hk => by simp [notFirstFn, hk]) (by decide)

theorem orcaFn_followsTruthTable : FollowsTruthTable 11 orcaFn :=
  followsTruthTable_of_bitwise (fun p q => !p || q) (fun a b k hk => by simp [orcaFn, hk]) (by decide)

theorem notSecondFn_followsTruthTable : FollowsTruthTable 12 notSecondFn :=
  followsTruthTable_of_bitwise (fun _ q => !q) (fun a b k hk => by simp [notSecondFn, hk]) (by decide)

theorem orcmFn_followsTruthTable : FollowsTruthTable 13 orcmFn :=
  followsTruthTable_of_bitwise (fun p q => p || !q) (fun a b k hk => by simp [orcmFn, hk]) (by decide)

theorem orcbFn_followsTruthTable : FollowsTruthTable 14 orcbFn :=
  followsTruthTable_of_bitwise (fun p q => !p || !q) (fun a b k hk => by simp [orcbFn, hk]) (by decide)

theorem onesFn_followsTruthTable : FollowsTruthTable 15 onesFn :=
  followsTruthTable_of_bitwise (fun _ _ => true)
    (fun _ _ _ hk => BitVec.getLsbD_allOnes.trans (decide_eq_true hk)) (by decide)

/-- A word whose bits are the truth table's is the word of a function that follows the table. -/
theorem eq_of_followsTruthTable {fn : BitVec 4} {f : Word → Word → Word} {a b r : Word} (hf : FollowsTruthTable fn f)
    (hr : ∀ k < 36, r.getLsbD k = truthBit fn (a.getLsbD k) (b.getLsbD k)) : f a b = r :=
  BitVec.eq_of_getLsbD_eq fun k hk => (hf a b k hk).trans (hr k hk).symm

-- The rows of the family

/-- The instructions of a row are the four modes (R88) of a function that sets no flag. -/
structure ComputesBy (row : Modes) (f : Word → Word → Word) : Prop where
  basic : ∀ ac m s, exec (row.basic ac m) s = binaryBasic (noFlags f) ac m s
  immediate : ∀ ac m s, exec (row.immediate ac m) s = binaryImmediate (noFlags f) ac m s
  memory : ∀ ac m s, exec (row.memory ac m) s = binaryMemory (noFlags f) ac m s
  both : ∀ ac m s, exec (row.both ac m) s = binaryBoth (noFlags f) ac m s

/-- The opcode of a boolean instruction is made of its function number and its mode. -/
theorem encode_booleanRow : ∀ row ∈ booleanRows, ∀ (mode : BitVec 2) (ac : AcNum) (m : AddrPart),
    encode (row.2.at mode ac m) = basicWord (0o400 + 4 * row.1.setWidth 9 + mode.setWidth 9) ac m := by
  simp only [booleanRows, List.forall_mem_cons, List.not_mem_nil, false_implies, implies_true, and_true]
  and_intros
  all_goals exact fun
    | 0, _, _ => rfl
    | 1, _, _ => rfl
    | 2, _, _ => rfl
    | 3, _, _ => rfl

/-- Every row of the family computes a function that follows the truth table's row of the same number. -/
theorem booleanRow_computesBy : ∀ row ∈ booleanRows, ∃ f, FollowsTruthTable row.1 f ∧ ComputesBy row.2 f := by
  simp only [booleanRows, List.forall_mem_cons, List.not_mem_nil, false_implies, implies_true, and_true]
  refine ⟨⟨zeroFn, zeroFn_followsTruthTable, ?_⟩, ⟨andFn, andFn_followsTruthTable, ?_⟩,
    ⟨andcaFn, andcaFn_followsTruthTable, ?_⟩, ⟨secondFn, secondFn_followsTruthTable, ?_⟩,
    ⟨andcmFn, andcmFn_followsTruthTable, ?_⟩, ⟨firstFn, firstFn_followsTruthTable, ?_⟩,
    ⟨xorFn, xorFn_followsTruthTable, ?_⟩, ⟨iorFn, iorFn_followsTruthTable, ?_⟩,
    ⟨andcbFn, andcbFn_followsTruthTable, ?_⟩, ⟨eqvFn, eqvFn_followsTruthTable, ?_⟩,
    ⟨notFirstFn, notFirstFn_followsTruthTable, ?_⟩, ⟨orcaFn, orcaFn_followsTruthTable, ?_⟩,
    ⟨notSecondFn, notSecondFn_followsTruthTable, ?_⟩, ⟨orcmFn, orcmFn_followsTruthTable, ?_⟩,
    ⟨orcbFn, orcbFn_followsTruthTable, ?_⟩, ⟨onesFn, onesFn_followsTruthTable, ?_⟩⟩
  all_goals exact ⟨fun _ _ _ => rfl, fun _ _ _ => rfl, fun _ _ _ => rfl, fun _ _ _ => rfl⟩

/-- Settles O35: each row is the four two-operand modes of its function, and its function follows the truth table. -/
theorem booleanFamilyByTruthTable : Obligations.BooleanFamilyByTruthTable := by
  intro row hrow
  obtain ⟨f, htable, hcomputes⟩ := booleanRow_computesBy row hrow
  refine ⟨fun mode ac m => opField_of_basic (encode_booleanRow row hrow mode ac m), fun s ac m e he b r hr => ?_⟩
  have hf : noFlags f (s.ac ac) b = (r, 0) := by rw [noFlags, eq_of_followsTruthTable htable hr]
  constructor
  · rintro rfl
    exact completes_binaryImmediate (hcomputes.immediate ac m s) he hf BitVec.or_zero
  · rintro hp rfl
    exact ⟨completes_binaryBasic (hcomputes.basic ac m s) he hp hf BitVec.or_zero,
      completes_binaryMemory (hcomputes.memory ac m s) he hp hf BitVec.or_zero,
      completes_binaryBoth (hcomputes.both ac m s) he hp hf BitVec.or_zero⟩

end Sys2Proof.Machine
end

section
/-!
PROOFS. Shifts and rotates (spec/43_shift_rotate.md). A left arithmetic shift of a field below a sign, one place at a
time, is the multiplication of the field by a power of two, and a bit that differs from the sign has left it just when
the signed value has left its range. The logical shifts and the rotates are those of `BitVec`, at both widths.
-/

namespace Sys2Proof.Machine

-- The count (R270)

section
variable {e : Offset} {w : Nat}

theorem shiftCount_eq_zero (h : e.toInt.natAbs % w = 0) : shiftCount e w = 0 := by
  simp [shiftCount, h]

theorem shiftCount_of_pos (h : 0 < e.toInt) : shiftCount e w = (e.toInt.natAbs % w : Nat) :=
  if_neg (Int.not_lt.mpr h.le)

theorem shiftCount_of_neg (h : e.toInt < 0) : shiftCount e w = -(e.toInt.natAbs % w : Nat) :=
  if_pos h

end

-- A field below a sign, shifted to the left (R271, R274)

/-- The number of a sign and the field of `w` bits below it. -/
def signedField (w : Nat) (sign : Bool) (mag : Nat) : Int := if sign then mag - (2 ^ w : Nat) else mag

theorem signedField_true (w mag : Nat) : signedField w true mag = mag - (2 ^ w : Nat) := rfl

theorem signedField_false (w mag : Nat) : signedField w false mag = mag := rfl

/-- The number does not fit in a sign and `w` bits. -/
abbrev Unfit (w : Nat) (v : Int) : Prop := v < -(2 ^ w) ∨ 2 ^ w ≤ v

theorem unfit_iff {w : Nat} {v : Int} : Unfit w v ↔ v < -(2 ^ w : Nat) ∨ (2 ^ w : Nat) ≤ v := by
  rw [Unfit, two_pow_cast]

theorem unfit_mul_two_pow {w : Nat} {v : Int} (n : Nat) (h : Unfit w v) : Unfit w (v * 2 ^ n) := by
  have hw : (0 : Int) < 2 ^ w := by positivity
  have hn : (1 : Int) ≤ 2 ^ n := one_le_pow₀ (by norm_num)
  rcases h with h | h
  · exact .inl ((mul_le_of_one_le_right (by omega) hn).trans_lt h)
  · exact .inr (h.trans (le_mul_of_one_le_right (by omega) hn))

section
variable {k mag : Nat} {sign : Bool}

theorem signedField_fits (hmag : mag < 2 ^ (k + 1)) : ¬ Unfit (k + 1) (signedField (k + 1) sign mag) := by
  rw [unfit_iff]
  cases sign
  · rw [signedField_false]
    omega
  · rw [signedField_true]
    omega

/-- The bit that leaves the field differs from the sign just when the doubled number does not fit. -/
theorem leaving_bit_ne_iff (hmag : mag < 2 ^ (k + 1)) :
    mag / 2 ^ k ≠ sign.toNat ↔ Unfit (k + 1) (signedField (k + 1) sign mag * 2) := by
  have hbit : mag / 2 ^ k = 1 ∧ 2 ^ k ≤ mag ∨ mag / 2 ^ k = 0 ∧ mag < 2 ^ k := by
    rw [Nat.div_eq_iff (Nat.two_pow_pos k), Nat.div_eq_iff (Nat.two_pow_pos k)]
    omega
  rw [unfit_iff]
  cases sign
  · rw [signedField_false, Bool.toNat_false]
    omega
  · rw [signedField_true, Bool.toNat_true]
    omega

/-- A doubled number that fits has the shifted field under the same sign. -/
theorem signedField_double (hmag : mag < 2 ^ (k + 1)) (hfit : ¬ Unfit (k + 1) (signedField (k + 1) sign mag * 2)) :
    signedField (k + 1) sign (2 * mag % 2 ^ (k + 1)) = signedField (k + 1) sign mag * 2 := by
  rw [unfit_iff] at hfit
  cases sign
  · rw [signedField_false] at hfit
    rw [signedField_false, signedField_false, Nat.mod_eq_of_lt (by omega)]
    omega
  · rw [signedField_true] at hfit
    rw [signedField_true, signedField_true, Nat.mod_eq_sub_mod (by omega), Nat.mod_eq_of_lt (by omega)]
    omega

/-- A field shifted `n` places is multiplied by `2 ^ n`, and some bit that left it differed from the sign just when
the number times `2 ^ n` does not fit. -/
theorem shiftField_eq (n : Nat) (ov : Bool) (hmag : mag < 2 ^ (k + 1)) :
    shiftField (k + 1) sign n mag ov =
      (mag * 2 ^ n % 2 ^ (k + 1), ov || decide (Unfit (k + 1) (signedField (k + 1) sign mag * 2 ^ n))) := by
  induction n generalizing mag ov with
  | zero =>
    have hfit := signedField_fits (sign := sign) hmag
    rw [shiftField, pow_zero, pow_zero, mul_one, mul_one, Nat.mod_eq_of_lt hmag, decide_eq_false hfit, Bool.or_false]
  | succ n ih =>
    have hfield : 2 * mag % 2 ^ (k + 1) * 2 ^ n % 2 ^ (k + 1) = mag * 2 ^ (n + 1) % 2 ^ (k + 1) := by
      rw [Nat.mod_mul_mod, pow_succ' 2 n, ← mul_assoc, mul_comm mag 2]
    have hpower : signedField (k + 1) sign mag * 2 ^ (n + 1) = signedField (k + 1) sign mag * 2 * 2 ^ n := by
      rw [pow_succ', mul_assoc]
    rw [shiftField, ih _ (Nat.mod_lt _ (Nat.two_pow_pos _)), hfield, hpower, Nat.add_sub_cancel, Bool.or_assoc]
    by_cases hfit : Unfit (k + 1) (signedField (k + 1) sign mag * 2)
    · have hbit : (mag / 2 ^ k != sign.toNat) = true := bne_iff_ne.mpr ((leaving_bit_ne_iff hmag).mpr hfit)
      rw [hbit, decide_eq_true (unfit_mul_two_pow n hfit), Bool.true_or]
    · have hbit : (mag / 2 ^ k != sign.toNat) = false := by
        rwa [bne_eq_false_iff_eq, ← not_ne_iff, leaving_bit_ne_iff hmag]
      rw [hbit, signedField_double hmag hfit, Bool.false_or]

end

-- The fields of a word and of a double word (R153)

theorem signedField_low35 (a : Word) : signedField 35 a.msb (low35 a) = a.toInt := by
  have ha := a.isLt
  rw [low35, BitVec.toInt_eq_msb_cond]
  cases hsign : a.msb
  · rw [BitVec.msb_eq_false_iff_two_mul_lt] at hsign
    rw [signedField_false, if_neg Bool.false_ne_true]
    omega
  · rw [BitVec.msb_eq_true_iff_two_mul_ge] at hsign
    rw [signedField_true, if_pos rfl]
    omega

theorem signedField_pair (a b : Word) :
    signedField 70 a.msb (low35 a * 2 ^ 35 + low35 b) = unpack72 a b := by
  rw [unpack72, ← signedField_low35]
  cases a.msb
  · rw [signedField_false, signedField_false]
    omega
  · rw [signedField_true, signedField_true]
    omega

theorem low35_pair_lt (a b : Word) : low35 a * 2 ^ 35 + low35 b < 2 ^ 70 := by
  have ha := low35_lt a
  have hb := low35_lt b
  omega

theorem unpack72_emod (h l : Word) : unpack72 h l % 2 ^ 70 = (low35 h * 2 ^ 35 + low35 l : Nat) := by
  have hlt := low35_pair_lt h l
  rw [← signedField_pair]
  cases h.msb
  · rw [signedField_false]
    omega
  · rw [signedField_true]
    omega

/-- A word from its sign and the 35 bits below it. -/
theorem ofBool_append_ofNat {r : Word} {sign : Bool} {v : Nat} (hsign : r.msb = sign) (hlow : low35 r = v % 2 ^ 35) :
    BitVec.ofBool sign ++ BitVec.ofNat 35 v = r := by
  have hlow : r.setWidth 35 = BitVec.ofNat 35 v := BitVec.eq_of_toNat_eq (by simpa [low35] using hlow)
  rw [← hsign, ← hlow]
  exact BitVec.cons_msb_setWidth r

theorem ashWord_left {n : Nat} {a r : Word} (hn : n ≠ 0) (hsign : r.msb = a.msb)
    (hlow : r.toNat % 2 ^ 35 = a.toNat * 2 ^ n % 2 ^ 35) :
    ashWord n a = (r, if a.toInt * 2 ^ n < -(2 ^ 35) ∨ 2 ^ 35 ≤ a.toInt * 2 ^ n then overflowFlags else 0) := by
  have hfield := shiftField_eq (k := 34) (sign := a.msb) n false (Nat.mod_lt a.toNat (Nat.two_pow_pos 35))
  rw [← low35, signedField_low35, Bool.false_or] at hfield
  have hword : low35 r = low35 a * 2 ^ n % 2 ^ 35 % 2 ^ 35 := by
    rw [Nat.mod_mod, low35, low35, Nat.mod_mul_mod, hlow]
  simp only [ashWord, if_pos (Int.natCast_pos.mpr (Nat.pos_of_ne_zero hn)), Int.natAbs_natCast, hfield,
    ofBool_append_ofNat hsign hword, decide_eq_true_eq]

theorem ashWord_right (n : Nat) (a : Word) : ashWord (-n) a = (BitVec.ofInt 36 (a.toInt / 2 ^ n), 0) := by
  rw [ashWord, if_neg (by omega), Int.natAbs_neg, Int.natAbs_natCast]

/-- The double word whose signs are those of the operand and whose 70 bits are the shifted ones. -/
theorem ashcWords_left {n : Nat} {a b h l : Word} (hn : n ≠ 0) (hh : h.msb = a.msb) (hl : l.msb = a.msb)
    (hlow : unpack72 h l % 2 ^ 70 = unpack72 a b * 2 ^ n % 2 ^ 70) :
    ashcWords n a b = ((h, l),
      if unpack72 a b * 2 ^ n < -(2 ^ 70) ∨ 2 ^ 70 ≤ unpack72 a b * 2 ^ n then overflowFlags else 0) := by
  have hfield := shiftField_eq (k := 69) (sign := a.msb) n false (low35_pair_lt a b)
  rw [signedField_pair, Bool.false_or] at hfield
  have hdigits : low35 h * 2 ^ 35 + low35 l = (low35 a * 2 ^ 35 + low35 b) * 2 ^ n % 2 ^ 70 := by
    have hint : ((low35 h * 2 ^ 35 + low35 l : Nat) : Int) = (low35 a * 2 ^ 35 + low35 b : Nat) * 2 ^ n % 2 ^ 70 := by
      rw [← unpack72_emod, hlow, ← unpack72_emod]
      exact ((Int.mod_modEq _ _).mul_right _).symm
    exact_mod_cast hint
  have hhlt := low35_lt h
  have hllt := low35_lt l
  have hhigh : low35 h = (low35 a * 2 ^ 35 + low35 b) * 2 ^ n % 2 ^ 70 / 2 ^ 35 % 2 ^ 35 := by omega
  have hlower : low35 l = (low35 a * 2 ^ 35 + low35 b) * 2 ^ n % 2 ^ 70 % 2 ^ 35 := by omega
  simp only [ashcWords, if_pos (Int.natCast_pos.mpr (Nat.pos_of_ne_zero hn)), Int.natAbs_natCast, hfield,
    ofBool_append_ofNat hh hhigh, ofBool_append_ofNat hl hlower, decide_eq_true_eq]

theorem ashcWords_right (n : Nat) (a b : Word) : ashcWords (-n) a b = (pack72 (unpack72 a b / 2 ^ n), 0) := by
  rw [ashcWords, if_neg (by omega), Int.natAbs_neg, Int.natAbs_natCast]

-- Logical shifts and rotates at any width (R272, R273, R275, R276)

section
variable {w : Nat} (v : BitVec w)

theorem ofNat_mul_two_pow (n : Nat) : BitVec.ofNat w (v.toNat * 2 ^ n) = v <<< n := by
  apply BitVec.eq_of_toNat_eq
  rw [BitVec.toNat_ofNat, BitVec.toNat_shiftLeft, Nat.shiftLeft_eq]

theorem ofNat_div_two_pow (n : Nat) : BitVec.ofNat w (v.toNat / 2 ^ n) = v >>> n := by
  apply BitVec.eq_of_toNat_eq
  rw [BitVec.toNat_ofNat, BitVec.toNat_ushiftRight, Nat.shiftRight_eq_div_pow]
  exact Nat.mod_eq_of_lt ((Nat.div_le_self _ _).trans_lt v.isLt)

/-- The bits that leave at the left come back at the right, below those that were shifted. -/
theorem ofNat_rotateLeft {n : Nat} (hn : n < w) :
    BitVec.ofNat w (v.toNat * 2 ^ n % 2 ^ w + v.toNat / 2 ^ (w - n)) = v.rotateLeft n := by
  have hsplit : 2 ^ w = 2 ^ (w - n) * 2 ^ n := by rw [← pow_add, Nat.sub_add_cancel hn.le]
  have hlow : v.toNat >>> (w - n) < 2 ^ n := by
    rw [Nat.shiftRight_eq_div_pow]
    exact Nat.div_lt_of_lt_mul (hsplit ▸ v.isLt)
  have hhigh : v.toNat <<< n % 2 ^ w = (v.toNat % 2 ^ (w - n)) <<< n := by
    rw [Nat.shiftLeft_eq, Nat.shiftLeft_eq, hsplit, Nat.mul_mod_mul_right]
  have hsum : v.toNat * 2 ^ n % 2 ^ w + v.toNat / 2 ^ (w - n) = (v.rotateLeft n).toNat := by
    rw [BitVec.toNat_rotateLeft, Nat.mod_eq_of_lt hn, hhigh, ← Nat.shiftLeft_add_eq_or_of_lt hlow, ← hhigh,
      Nat.shiftLeft_eq, Nat.shiftRight_eq_div_pow]
  rw [hsum, BitVec.ofNat_toNat, BitVec.setWidth_eq]

theorem rotateLeft_sub {n : Nat} (h0 : n ≠ 0) (hn : n < w) : v.rotateLeft (w - n) = v.rotateRight n := by
  rw [BitVec.rotateLeft_def, BitVec.rotateRight_def, Nat.mod_eq_of_lt hn, Nat.mod_eq_of_lt (by omega),
    Nat.sub_sub_self hn.le, BitVec.or_comm]

end

/-- A rotate to the right is a rotate to the left by the rest of the width. -/
theorem neg_emod_toNat {n w : Nat} (h0 : n ≠ 0) (hn : n < w) : (-(n : Int) % w).toNat = w - n := by
  rw [← Int.add_emod_right, Int.emod_eq_of_lt (by omega) (by omega)]
  omega

theorem rotWord_left {n : Nat} (hn : n < 36) (a : Word) : rotWord n a = (a.rotateLeft n, 0) := by
  have hcount : ((n : Int) % 36).toNat = n := by omega
  rw [rotWord, hcount, ofNat_rotateLeft a hn]

theorem rotWord_right {n : Nat} (h0 : n ≠ 0) (hn : n < 36) (a : Word) : rotWord (-n) a = (a.rotateRight n, 0) := by
  have hcount : (-(n : Int) % 36).toNat = 36 - n := neg_emod_toNat h0 hn
  rw [rotWord, hcount, ofNat_rotateLeft a (by omega), rotateLeft_sub a h0 hn]

theorem lshWord_left {n : Nat} (hn : n ≠ 0) (a : Word) : lshWord n a = (a <<< n, 0) := by
  rw [lshWord, if_pos (Int.natCast_pos.mpr (Nat.pos_of_ne_zero hn)), Int.natAbs_natCast, ofNat_mul_two_pow]

theorem lshWord_right (n : Nat) (a : Word) : lshWord (-n) a = (a >>> n, 0) := by
  rw [lshWord, if_neg (by omega), Int.natAbs_neg, Int.natAbs_natCast, ofNat_div_two_pow]

-- The pair as one number of 72 bits (R275, R276)

theorem pairNat_eq (a b : Word) : pairNat a b = (a ++ b).toNat := by
  rw [pairNat, BitVec.toNat_append, ← Nat.shiftLeft_add_eq_or_of_lt b.isLt, Nat.shiftLeft_eq]

theorem natPair_eq {v : Nat} {r : BitVec 72} (h : BitVec.ofNat 72 v = r) :
    natPair v = (r.extractLsb' 36 36, r.extractLsb' 0 36) := by
  subst h
  refine Prod.ext (BitVec.eq_of_toNat_eq ?_) (BitVec.eq_of_toNat_eq ?_) <;>
  · simp only [natPair, BitVec.extractLsb'_toNat, BitVec.toNat_ofNat, Nat.shiftRight_eq_div_pow]
    omega

section
variable {n : Nat} {r : BitVec 72} (a b : Word)

theorem rotcWords_left (hn : n < 72) (hr : r = (a ++ b).rotateLeft n) :
    rotcWords n a b = ((r.extractLsb' 36 36, r.extractLsb' 0 36), 0) := by
  have hcount : ((n : Int) % 72).toNat = n := by omega
  rw [rotcWords, hcount, pairNat_eq, natPair_eq (ofNat_rotateLeft _ hn), hr]

theorem rotcWords_right (h0 : n ≠ 0) (hn : n < 72) (hr : r = (a ++ b).rotateRight n) :
    rotcWords (-n) a b = ((r.extractLsb' 36 36, r.extractLsb' 0 36), 0) := by
  have hcount : (-(n : Int) % 72).toNat = 72 - n := neg_emod_toNat h0 hn
  rw [rotcWords, hcount, pairNat_eq, natPair_eq (ofNat_rotateLeft _ (by omega)), rotateLeft_sub _ h0 hn, hr]

theorem lshcWords_left (hn : n ≠ 0) (hr : r = (a ++ b) <<< n) :
    lshcWords n a b = ((r.extractLsb' 36 36, r.extractLsb' 0 36), 0) := by
  have hshift : BitVec.ofNat 72 ((a ++ b).toNat * 2 ^ n % 2 ^ 72) = r := by
    rw [← Nat.shiftLeft_eq, ← BitVec.toNat_shiftLeft, BitVec.ofNat_toNat, BitVec.setWidth_eq, hr]
  rw [lshcWords, if_pos (Int.natCast_pos.mpr (Nat.pos_of_ne_zero hn)), Int.natAbs_natCast, pairNat_eq,
    natPair_eq hshift]

theorem lshcWords_right (hr : r = (a ++ b) >>> n) :
    lshcWords (-n) a b = ((r.extractLsb' 36 36, r.extractLsb' 0 36), 0) := by
  rw [lshcWords, if_neg (by omega), Int.natAbs_neg, Int.natAbs_natCast, pairNat_eq,
    natPair_eq (ofNat_div_two_pow _ n), hr]

end

-- The instructions

section
variable {i : Instr} {s : State} {ac : AcNum} {m : AddrPart} {e : Offset} {c : Int} {k g : BitVec 13}

/-- A shift of one accumulator by a count other than 0, whose function makes `v` and sets the flags `k`. -/
theorem completes_shiftOne {f : Int → Word → Word × BitVec 13} {v : Word} (hi : exec i s = shiftOne f ac m s)
    (he : s.effective m = .ok e) (hc : shiftCount e 36 = c) (h0 : c ≠ 0) (hf : f c (s.ac ac) = (v, k))
    (hg : s.flags ||| k = g) : Completes i s [(acAddr ac, v)] g s.returnPC := by
  have hdoes := does_shiftOne (ac := ac) f he (hc.trans_ne h0)
  rwa [hc, hf, hg, ← hi] at hdoes

/-- The same for a shift of two accumulators. -/
theorem completes_shiftTwo {f : Int → Word → Word → (Word × Word) × BitVec 13} {h l : Word}
    (hi : exec i s = shiftTwo f ac m s) (he : s.effective m = .ok e) (hc : shiftCount e 72 = c) (h0 : c ≠ 0)
    (hf : f c (s.ac ac) (s.ac (ac + 1)) = ((h, l), k)) (hg : s.flags ||| k = g) :
    Completes i s [(acAddr ac, h), (acAddr (ac + 1), l)] g s.returnPC := by
  have hdoes := does_shiftTwo (ac := ac) f he (hc.trans_ne h0) rfl
  rwa [hc, hf, hg, ← hi] at hdoes

end

/-- Settles O36: a count of 0 writes nothing; else each function's result to the left and to the right. -/
theorem singleShiftsComplete : Obligations.SingleShiftsComplete := by
  refine ⟨fun ac m => ?_, ?_⟩
  · simp only [opcodes_cons, opcodes_nil, and_true]
    and_intros <;> exact opField_of_basic rfl
  · rintro s ac m e n a he hn rfl
    have hlt : n < 36 := hn ▸ Nat.mod_lt _ (by decide)
    refine ⟨fun h0 => ?_, fun h0 hpos => ?_, fun h0 hneg => ?_⟩
    · have hc : shiftCount e 36 = 0 := shiftCount_eq_zero (hn.symm.trans h0)
      exact ⟨does_shiftOne_zero _ he hc, does_shiftOne_zero _ he hc, does_shiftOne_zero _ he hc⟩
    · have hc : shiftCount e 36 = n := hn ▸ shiftCount_of_pos hpos
      have hne : (n : Int) ≠ 0 := Int.natCast_ne_zero.mpr h0
      exact ⟨fun r hsign hlow =>
          completes_shiftOne rfl he hc hne (ashWord_left h0 hsign hlow) (or_ite_flagMask s _ [.aov, .tr1]),
        completes_shiftOne rfl he hc hne (rotWord_left hlt _) BitVec.or_zero,
        completes_shiftOne rfl he hc hne (lshWord_left h0 _) BitVec.or_zero⟩
    · have hc : shiftCount e 36 = -n := hn ▸ shiftCount_of_neg hneg
      have hne : -(n : Int) ≠ 0 := Int.neg_ne_zero.mpr (Int.natCast_ne_zero.mpr h0)
      exact ⟨completes_shiftOne rfl he hc hne (ashWord_right n _) BitVec.or_zero,
        completes_shiftOne rfl he hc hne (rotWord_right h0 hlt _) BitVec.or_zero,
        completes_shiftOne rfl he hc hne (lshWord_right n _) BitVec.or_zero⟩

/-- Settles O37: as O36, with the 70 bits below the sign of a double word, or the 72 bits of the pair. -/
theorem pairShiftsComplete : Obligations.PairShiftsComplete := by
  refine ⟨fun ac m => ?_, ?_⟩
  · simp only [opcodes_cons, opcodes_nil, and_true]
    and_intros <;> exact opField_of_basic rfl
  · rintro s ac m e n a b v he hn rfl rfl rfl
    have hlt : n < 72 := hn ▸ Nat.mod_lt _ (by decide)
    refine ⟨fun h0 => ?_, fun h0 hpos => ?_, fun h0 hneg => ?_⟩
    · have hc : shiftCount e 72 = 0 := shiftCount_eq_zero (hn.symm.trans h0)
      exact ⟨does_shiftTwo_zero _ he hc, does_shiftTwo_zero _ he hc, does_shiftTwo_zero _ he hc⟩
    · have hc : shiftCount e 72 = n := hn ▸ shiftCount_of_pos hpos
      have hne : (n : Int) ≠ 0 := Int.natCast_ne_zero.mpr h0
      exact ⟨fun h l hh hl hlow =>
          completes_shiftTwo rfl he hc hne (ashcWords_left h0 hh hl hlow) (or_ite_flagMask s _ [.aov, .tr1]),
        fun r hr => completes_shiftTwo rfl he hc hne (rotcWords_left _ _ hlt hr) BitVec.or_zero,
        fun r hr => completes_shiftTwo rfl he hc hne (lshcWords_left _ _ h0 hr) BitVec.or_zero⟩
    · have hc : shiftCount e 72 = -n := hn ▸ shiftCount_of_neg hneg
      have hne : -(n : Int) ≠ 0 := Int.neg_ne_zero.mpr (Int.natCast_ne_zero.mpr h0)
      exact ⟨fun r hr => completes_shiftTwo rfl he hc hne (hr ▸ ashcWords_right n _ _) BitVec.or_zero,
        fun r hr => completes_shiftTwo rfl he hc hne (rotcWords_right _ _ h0 hlt hr) BitVec.or_zero,
        fun r hr => completes_shiftTwo rfl he hc hne (lshcWords_right _ _ hr) BitVec.or_zero⟩

end Sys2Proof.Machine
end

section
/-!
PROOFS. Arithmetic tests, skips and jumps (spec/44_arith_test.md). Each row of the eight-way families is one condition
in the eight shared operations; the flags of adding or subtracting one are read off the two carries, each of which is
one operand or two; the loop jumps add to halves and count zeros.
-/

namespace Sys2Proof.Machine

-- The rows of the eight-way families (R95)

/-- The instructions of a row are the eight shared operations under the condition `c`, which is the row's own. -/
structure TestsBy (row : CondRow) (c : Cond) : Prop where
  holds : row.holds = c.holds
  cai : ∀ ac m s, exec (row.cai ac m) s = compareImmediate c ac m s
  cam : ∀ ac m s, exec (row.cam ac m) s = compareMemory c ac m s
  jump : ∀ ac m s, exec (row.jump ac m) s = jumpOnAc c ac m s
  skip : ∀ ac m s, exec (row.skip ac m) s = skipOnMemory c ac m s
  aoj : ∀ ac m s, exec (row.aoj ac m) s = stepAndJump plusOne c ac m s
  aos : ∀ ac m s, exec (row.aos ac m) s = stepAndSkip plusOne c ac m s
  soj : ∀ ac m s, exec (row.soj ac m) s = stepAndJump minusOne c ac m s
  sos : ∀ ac m s, exec (row.sos ac m) s = stepAndSkip minusOne c ac m s

/-- Every row tests by a condition. -/
theorem condRow_testsBy : ∀ row ∈ condRows, ∃ c, TestsBy row c := by
  simp only [condRows, List.forall_mem_cons, List.not_mem_nil, false_implies, implies_true, and_true]
  refine ⟨⟨.never, ?_⟩, ⟨.l, ?_⟩, ⟨.e, ?_⟩, ⟨.le, ?_⟩, ⟨.a, ?_⟩, ⟨.ge, ?_⟩, ⟨.n, ?_⟩, ⟨.g, ?_⟩⟩
  all_goals exact ⟨rfl, fun _ _ _ => rfl, fun _ _ _ => rfl, fun _ _ _ => rfl, fun _ _ _ => rfl, fun _ _ _ => rfl,
    fun _ _ _ => rfl, fun _ _ _ => rfl, fun _ _ _ => rfl⟩

/-- The words of a row's instructions: each family's first opcode and the code of the condition. -/
structure EncodesByCode (row : CondRow) : Prop where
  cai : ∀ ac m, encode (row.cai ac m) = basicWord (0o300 + row.code.setWidth 9) ac m
  cam : ∀ ac m, encode (row.cam ac m) = basicWord (0o310 + row.code.setWidth 9) ac m
  jump : ∀ ac m, encode (row.jump ac m) = basicWord (0o320 + row.code.setWidth 9) ac m
  skip : ∀ ac m, encode (row.skip ac m) = basicWord (0o330 + row.code.setWidth 9) ac m
  aoj : ∀ ac m, encode (row.aoj ac m) = basicWord (0o340 + row.code.setWidth 9) ac m
  aos : ∀ ac m, encode (row.aos ac m) = basicWord (0o350 + row.code.setWidth 9) ac m
  soj : ∀ ac m, encode (row.soj ac m) = basicWord (0o360 + row.code.setWidth 9) ac m
  sos : ∀ ac m, encode (row.sos ac m) = basicWord (0o370 + row.code.setWidth 9) ac m

theorem condRow_encodesByCode : ∀ row ∈ condRows, EncodesByCode row := by
  simp only [condRows, List.forall_mem_cons, List.not_mem_nil, false_implies, implies_true, and_true]
  and_intros
  all_goals exact ⟨fun _ _ => rfl, fun _ _ => rfl, fun _ _ => rfl, fun _ _ => rfl, fun _ _ => rfl, fun _ _ => rfl,
    fun _ _ => rfl, fun _ _ => rfl⟩

-- Adding and subtracting one (R290)

/-- Adding one carries out of the sign for -1 alone, and into it for -1 and the largest number. -/
theorem increment_carries_iff (a : Word) :
    (2 ^ 36 ≤ a.toNat + 1 ↔ a = 0o777777777777) ∧
    (2 ^ 35 ≤ a.toNat % 2 ^ 35 + 1 ↔ a = 0o377777777777 ∨ a = 0o777777777777) := by
  have ha := a.isLt
  have hminus : a = 0o777777777777 ↔ a.toNat = 2 ^ 36 - 1 := BitVec.toNat_inj.symm
  have hmax : a = 0o377777777777 ↔ a.toNat = 2 ^ 35 - 1 := BitVec.toNat_inj.symm
  rw [hminus, hmax]
  omega

/-- Subtracting one carries out of the sign except from 0, and into it except from 0 and the most negative number. -/
theorem decrement_carries_iff (a : Word) :
    (1 ≤ a.toNat ↔ a ≠ 0) ∧ (1 ≤ a.toNat % 2 ^ 35 ↔ a ≠ 0o400000000000 ∧ a ≠ 0) := by
  have ha := a.isLt
  have hzero : a = 0 ↔ a.toNat = 0 := BitVec.toNat_inj.symm
  have hmin : a = 0o400000000000 ↔ a.toNat = 2 ^ 35 := BitVec.toNat_inj.symm
  rw [Ne, Ne, hzero, hmin]
  omega

theorem plusOne_eq (a : Word) : plusOne a = (a + 1, incrementFlags a) := by
  obtain ⟨hout, hinto⟩ := increment_carries_iff a
  have hflags : carryFlags (decide (2 ^ 36 ≤ a.toNat + 1)) (decide (2 ^ 35 ≤ a.toNat % 2 ^ 35 + 1)) =
      incrementFlags a := by
    simp only [hout, hinto, incrementFlags]
    by_cases hmax : a = 0o377777777777
    · subst hmax
      rfl
    · by_cases hminus : a = 0o777777777777
      · subst hminus
        rfl
      · simp only [hmax, hminus]
        rfl
  rw [plusOne, add36_eq]
  exact congrArg (Prod.mk _) hflags

theorem minusOne_eq (a : Word) : minusOne a = (a - 1, decrementFlags a) := by
  obtain ⟨hout, hinto⟩ := decrement_carries_iff a
  have hflags : carryFlags (decide (1 ≤ a.toNat)) (decide (1 ≤ a.toNat % 2 ^ 35)) = decrementFlags a := by
    simp only [hout, hinto, decrementFlags, ne_eq]
    by_cases hmin : a = 0o400000000000
    · subst hmin
      rfl
    · by_cases hzero : a = 0
      · subst hzero
        rfl
      · simp only [hmin, hzero]
        rfl
  rw [minusOne, sub36_eq]
  exact congrArg (Prod.mk _) hflags

-- The eight-way families through their operations

variable {s : State} {m : AddrPart} {e : Offset} {ac : AcNum}

section
variable {i : Instr} {f : Word → Word × BitVec 13} {c : Cond} {v : Word} {k : BitVec 13}

/-- An instruction that steps the accumulator to `v`, sets the flags `k` and jumps when `v` meets the condition. -/
theorem completes_stepAndJump (hi : exec i s = stepAndJump f c ac m s) (he : s.effective m = .ok e)
    (hf : f (s.ac ac) = (v, k)) :
    Completes i s [(acAddr ac, v)] (s.flags ||| k) (if c.holds v.toInt then s.sec e else s.returnPC) := by
  have hdoes := does_stepAndJump (ac := ac) f c he
  rwa [hf, ← hi] at hdoes

/-- The same in place at E, with a skip. -/
theorem completes_stepAndSkip (hi : exec i s = stepAndSkip f c ac m s) (he : s.effective m = .ok e)
    (hp : s.present (s.sec e) = true) (hf : f (s.peek (s.sec e)) = (v, k)) :
    Completes i s ((s.sec e, v) :: whenWritten (ac ≠ 0) (acAddr ac, v)) (s.flags ||| k)
      (if c.holds v.toInt then skipPC s else s.returnPC) := by
  have hdoes := does_stepAndSkip (ac := ac) f c he hp hf.symm
  rwa [← hi] at hdoes

end

/-- Settles O42: each row steps under its condition, and one more or one less sets the flags of R290. -/
theorem incrementsTestTheResult : Obligations.IncrementsTestTheResult := by
  intro row hrow
  obtain ⟨c, hc⟩ := condRow_testsBy row hrow
  have hcode := condRow_encodesByCode row hrow
  refine ⟨fun ac m => ⟨opField_of_basic (hcode.aoj ac m), opField_of_basic (hcode.aos ac m),
    opField_of_basic (hcode.soj ac m), opField_of_basic (hcode.sos ac m)⟩, fun s ac m e he => ?_⟩
  rw [hc.holds]
  constructor
  · rintro a rfl
    exact ⟨completes_stepAndJump (hc.aoj ac m s) he (plusOne_eq _),
      completes_stepAndJump (hc.soj ac m s) he (minusOne_eq _)⟩
  · rintro hp a rfl
    exact ⟨completes_stepAndSkip (hc.aos ac m s) he hp (plusOne_eq _),
      completes_stepAndSkip (hc.sos ac m s) he hp (minusOne_eq _)⟩

/-- Settles O40: each row compares under its condition. -/
theorem comparesSkipOnCondition : Obligations.ComparesSkipOnCondition := by
  intro row hrow
  obtain ⟨c, hc⟩ := condRow_testsBy row hrow
  have hcode := condRow_encodesByCode row hrow
  refine ⟨fun ac m => ⟨opField_of_basic (hcode.cai ac m), opField_of_basic (hcode.cam ac m)⟩, fun s ac m e he => ?_⟩
  simp only [Completes, hc.holds, hc.cai, hc.cam]
  exact ⟨does_compareImmediate c he, does_compareMemory c he⟩

/-- Settles O41: each row jumps on the accumulator or skips on the word at E under its condition. -/
theorem jumpsAndSkipsOnCondition : Obligations.JumpsAndSkipsOnCondition := by
  intro row hrow
  obtain ⟨c, hc⟩ := condRow_testsBy row hrow
  have hcode := condRow_encodesByCode row hrow
  refine ⟨fun ac m => ⟨opField_of_basic (hcode.jump ac m), opField_of_basic (hcode.skip ac m)⟩, fun s ac m e he => ?_⟩
  simp only [Completes, hc.holds, hc.jump, hc.skip]
  refine ⟨does_jumpOnAc c he, ?_⟩
  rintro hp v rfl
  exact does_skipOnMemory c he hp

-- AOBJP, AOBJN and JFFO

/-- One is added to both halves, and the jump is taken on the sign asked for (R355, R356). -/
theorem does_addBothAndJump (jumpNegative : Bool) (he : s.effective m = .ok e) :
    Does (addBothAndJump jumpNegative ac m s) s [(acAddr ac, addHalves (s.ac ac) 1)] s.flags
      (if (addHalves (s.ac ac) 1).msb == jumpNegative then s.sec e else s.returnPC) :=
  does_finish_ok (by simp only [bind, Except.bind, he]; rfl) (effect_jumpIf (effect_setAc (effect_refl s) _ _) _ _)

theorem does_execAobjp (he : s.effective m = .ok e) :
    Does (execAobjp ac m s) s [(acAddr ac, addHalves (s.ac ac) 1)] s.flags
      (if (addHalves (s.ac ac) 1).msb then s.returnPC else s.sec e) := by
  refine does_congr (does_addBothAndJump false he) rfl rfl ?_
  cases (addHalves (s.ac ac) 1).msb <;> rfl

theorem does_execAobjn (he : s.effective m = .ok e) :
    Does (execAobjn ac m s) s [(acAddr ac, addHalves (s.ac ac) 1)] s.flags
      (if (addHalves (s.ac ac) 1).msb then s.sec e else s.returnPC) := by
  refine does_congr (does_addBothAndJump true he) rfl rfl ?_
  rw [beq_true]

theorem leadingZeros_zero : leadingZeros 0 = 0 := by decide

/-- The number of leading zeros is the place of the first 1. -/
theorem leadingZeros_eq {a : Word} {n : Nat} (hn : n < 36) (hone : a.getMsbD n = true)
    (hzeros : ∀ k < n, a.getMsbD k = false) : leadingZeros a = n := by
  have hfind : (List.range 36).find? (fun k => a.getMsbD k) = some n := by
    rw [List.find?_range_eq_some]
    exact ⟨hone, List.mem_range.mpr hn, fun k hk => by rw [hzeros k hk]; rfl⟩
  rw [leadingZeros, hfind, Option.getD_some]

theorem does_execJffo (he : s.effective m = .ok e) :
    Does (execJffo ac m s) s [(acAddr (ac + 1), BitVec.ofNat 36 (leadingZeros (s.ac ac)))] s.flags
      (if s.ac ac != 0 then s.sec e else s.returnPC) :=
  does_finish_ok (by simp only [bind, Except.bind, he]; rfl) (effect_jumpIf (effect_setAc (effect_refl s) _ _) _ _)

theorem does_execJffo_zero (he : s.effective m = .ok e) (ha : s.ac ac = 0) :
    Does (execJffo ac m s) s [(acAddr (ac + 1), 0)] s.flags s.returnPC := by
  have hdoes := does_execJffo (ac := ac) he
  rwa [ha, leadingZeros_zero] at hdoes

theorem does_execJffo_first_one {n : Nat} (he : s.effective m = .ok e) (hn : n < 36)
    (hone : (s.ac ac).getMsbD n = true) (hzeros : ∀ k < n, (s.ac ac).getMsbD k = false) :
    Does (execJffo ac m s) s [(acAddr (ac + 1), BitVec.ofNat 36 n)] s.flags (s.sec e) := by
  have hne : s.ac ac ≠ 0 := by
    intro h0
    simp [h0] at hone
  have hdoes := does_execJffo (ac := ac) he
  rwa [leadingZeros_eq hn hone hzeros, if_pos (bne_iff_ne.mpr hne)] at hdoes

/-- Settles O43: the two sums of halves by the sign of the result, the first 1 by the cases of none and one. -/
theorem loopJumpsComplete : Obligations.LoopJumpsComplete := by
  refine ⟨fun ac m => ?_, ?_⟩
  · simp only [opcodes_cons, opcodes_nil, and_true]
    and_intros <;> exact opField_of_basic rfl
  · rintro s ac m e a r he rfl
    refine ⟨?_, does_execJffo_zero he, fun n hn => does_execJffo_first_one he hn⟩
    rintro rfl
    exact ⟨does_execAobjp he, does_execAobjn he⟩

end Sys2Proof.Machine
end

section
/-!
PROOFS. The half-word family (spec/45_halfword.md). A word is settled by its two halves, so a word with the moved half
in one and the filled half in the other is the word the shared operation makes; each row is that operation in its four
modes.
-/

namespace Sys2Proof.Machine

-- The result by its halves (R370)

/-- What a fill makes of the half of `old` that is not moved to, when `h` is the moved half. -/
def filledHalf (fill : Fill) (destRight : Bool) (old : Word) (h : Half) : Half :=
  match fill with
  | .asIs => halfOf (!destRight) old
  | .zeros => 0
  | .ones => BitVec.allOnes 18
  | .signExtend => if h.msb then BitVec.allOnes 18 else 0

theorem movedHalf_eq_halfOf (destRight cross : Bool) (w : Word) :
    movedHalf destRight cross w = halfOf (destRight != cross) w := rfl

/-- The filled half stands beside the moved one. -/
theorem halfResult_eq_joinHalves (h : Half) (old : Word) (destRight : Bool) (fill : Fill) :
    halfResult h old destRight fill =
      if destRight then joinHalves (filledHalf fill destRight old h) h
      else joinHalves h (filledHalf fill destRight old h) := by
  cases destRight <;> cases fill <;> rfl

theorem halfOf_halfResult (h : Half) (old : Word) (destRight : Bool) (fill : Fill) :
    halfOf destRight (halfResult h old destRight fill) = h := by
  rw [halfResult_eq_joinHalves]
  cases destRight with
  | false => exact lh_joinHalves _ _
  | true => exact rh_joinHalves _ _

theorem halfOf_not_halfResult (h : Half) (old : Word) (destRight : Bool) (fill : Fill) :
    halfOf (!destRight) (halfResult h old destRight fill) = filledHalf fill destRight old h := by
  rw [halfResult_eq_joinHalves]
  cases destRight with
  | false => exact rh_joinHalves _ _
  | true => exact lh_joinHalves _ _

/-- Two words that agree in one half and in the other are the same. -/
theorem word_eq_of_halfOf {v w : Word} (right : Bool) (h : halfOf right v = halfOf right w)
    (hother : halfOf (!right) v = halfOf (!right) w) : v = w := by
  cases right with
  | false => exact word_eq_of_halves h hother
  | true => exact word_eq_of_halves hother h

/-- The word whose halves are the moved one and the filled one is the result of the family. -/
theorem eq_halfResult {h : Half} {old r : Word} {destRight : Bool} {fill : Fill} (hmoved : halfOf destRight r = h)
    (hother : halfOf (!destRight) r = filledHalf fill destRight old h) : r = halfResult h old destRight fill :=
  word_eq_of_halfOf destRight (hmoved.trans (halfOf_halfResult h old destRight fill).symm)
    (hother.trans (halfOf_not_halfResult h old destRight fill).symm)

-- The rows of the family

/-- The instructions of a row are the four modes of the half-word operation with the row's side, cross and fill. -/
structure MovesHalf (row : HalfRow) : Prop where
  basic : ∀ ac m s, exec (row.modes.basic ac m) s = halfBasic row.destRight row.cross row.fill ac m s
  immediate : ∀ ac m s, exec (row.modes.immediate ac m) s = halfImmediate row.destRight row.cross row.fill ac m s
  memory : ∀ ac m s, exec (row.modes.memory ac m) s = halfMemory row.destRight row.cross row.fill ac m s
  both : ∀ ac m s, exec (row.modes.both ac m) s = halfSelf row.destRight row.cross row.fill ac m s

theorem halfRow_movesHalf : ∀ row ∈ halfRows, MovesHalf row := by
  simp only [halfRows, List.forall_mem_cons, List.not_mem_nil, false_implies, implies_true, and_true]
  and_intros
  all_goals exact ⟨fun _ _ _ => rfl, fun _ _ _ => rfl, fun _ _ _ => rfl, fun _ _ _ => rfl⟩

/-- The opcode of a row's instruction in a mode (R370). -/
def halfOpcode (row : HalfRow) (mode : BitVec 2) : BitVec 9 :=
  0o500 + (if row.destRight then 0o40 else 0) + 8 * (fillCode row.fill).setWidth 9 + (if row.cross then 4 else 0)
    + mode.setWidth 9

theorem encode_halfRow : ∀ row ∈ halfRows, ∀ (mode : BitVec 2) (ac : AcNum) (m : AddrPart),
    encode (row.modes.at mode ac m) = basicWord (halfOpcode row mode) ac m := by
  simp only [halfRows, List.forall_mem_cons, List.not_mem_nil, false_implies, implies_true, and_true]
  and_intros
  all_goals exact fun
    | 0, _, _ => rfl
    | 1, _, _ => rfl
    | 2, _, _ => rfl
    | 3, _, _ => rfl

-- The family through its operations

section
variable {row : HalfRow} {s : State} {m : AddrPart} {e : Offset} {ac : AcNum} {r : Word}

theorem completes_halfImmediate (hrow : MovesHalf row) (he : s.effective m = .ok e)
    (hr : r = halfResult (movedHalf row.destRight row.cross (immediate e)) (s.ac ac) row.destRight row.fill) :
    Completes (row.modes.immediate ac m) s [(acAddr ac, r)] s.flags s.returnPC := by
  rw [Completes, hrow.immediate, hr]
  exact does_halfImmediate _ _ _ he

theorem completes_halfBasic (hrow : MovesHalf row) (he : s.effective m = .ok e) (hp : s.present (s.sec e) = true)
    (hr : r = halfResult (movedHalf row.destRight row.cross (s.peek (s.sec e))) (s.ac ac) row.destRight row.fill) :
    Completes (row.modes.basic ac m) s [(acAddr ac, r)] s.flags s.returnPC := by
  rw [Completes, hrow.basic, hr]
  exact does_halfBasic _ _ _ he hp

theorem completes_halfMemory (hrow : MovesHalf row) (he : s.effective m = .ok e) (hp : s.present (s.sec e) = true)
    (hr : r = halfResult (movedHalf row.destRight row.cross (s.ac ac)) (s.peek (s.sec e)) row.destRight row.fill) :
    Completes (row.modes.memory ac m) s [(s.sec e, r)] s.flags s.returnPC := by
  rw [Completes, hrow.memory, hr]
  exact does_halfMemory _ _ _ he hp

theorem completes_halfSelf (hrow : MovesHalf row) (he : s.effective m = .ok e) (hp : s.present (s.sec e) = true)
    (hr : r = halfResult (movedHalf row.destRight row.cross (s.peek (s.sec e))) (s.peek (s.sec e)) row.destRight
      row.fill) :
    Completes (row.modes.both ac m) s ((s.sec e, r) :: whenWritten (ac ≠ 0) (acAddr ac, r)) s.flags s.returnPC := by
  rw [Completes, hrow.both]
  exact does_halfSelf _ _ _ he hp hr

end

/-- Settles O38: `r` is the result by its two halves, and each row is the shared operation in its four modes. -/
theorem halfWordFamilyCompletes : Obligations.HalfWordFamilyCompletes := by
  intro row hmem
  have hrow := halfRow_movesHalf row hmem
  refine ⟨fun mode ac m => opField_of_basic (encode_halfRow row hmem mode ac m), ?_⟩
  intro s ac m e he src old r h hh hmoved hother
  have hr : r = halfResult (movedHalf row.destRight row.cross src) old row.destRight row.fill := by
    rw [movedHalf_eq_halfOf, ← hh]
    exact eq_halfResult hmoved hother
  constructor
  · rintro rfl rfl
    exact completes_halfImmediate hrow he hr
  · refine fun hp => ⟨?_, ?_, ?_⟩
    · rintro rfl rfl
      exact completes_halfBasic hrow he hp hr
    · rintro rfl rfl
      exact completes_halfMemory hrow he hp hr
    · rintro rfl rfl
      exact completes_halfSelf hrow he hp hr

end Sys2Proof.Machine
end

section
/-!
PROOFS. The logical test family (spec/46_logical_test.md). Each row is one mask operation and one skip condition in the
four alignments; the mask operation is settled bit by bit, and a condition on the masked word is one on its bits.
-/

namespace Sys2Proof.Machine

-- The mask operation and the skip condition on bits (R440)

/-- What a mask operation makes of a bit under the mask. -/
def Modify.maskedBit (k : Modify) (b : Bool) : Bool :=
  match k with
  | .none => b
  | .zero => false
  | .complement => !b
  | .set => true

theorem Modify.getLsbD_apply (k : Modify) (a mask : Word) {i : Nat} (hi : i < 36) :
    (k.apply a mask).getLsbD i = if mask.getLsbD i then k.maskedBit (a.getLsbD i) else a.getLsbD i := by
  cases k with
  | none => exact (ite_self _).symm
  | zero => cases hm : mask.getLsbD i <;> simp [Modify.apply, Modify.maskedBit, hi, hm, -BitVec.getLsbD_eq_getElem]
  | complement => cases hm : mask.getLsbD i <;> simp [Modify.apply, Modify.maskedBit, hm]
  | set => cases hm : mask.getLsbD i <;> simp [Modify.apply, Modify.maskedBit, hm]

/-- A word whose bits under the mask are operated on and whose other bits are kept is the word the operation makes. -/
theorem Modify.apply_eq {k : Modify} {a mask new : Word}
    (hnew : ∀ i < 36, new.getLsbD i = if mask.getLsbD i then k.maskedBit (a.getLsbD i) else a.getLsbD i) :
    k.apply a mask = new :=
  BitVec.eq_of_getLsbD_eq fun i hi => (k.getLsbD_apply a mask hi).trans (hnew i hi).symm

/-- Some masked bit is 1 just when the masked word is not 0. -/
theorem someMasked_iff (a mask : Word) : someMasked a mask = true ↔ a &&& mask ≠ 0 := by
  have hzero : a &&& mask = 0 ↔ ∀ i < 36, ¬(mask.getLsbD i && a.getLsbD i) = true := by
    simp [BitVec.eq_of_getLsbD_eq_iff, Bool.and_comm]
  rw [someMasked, List.any_eq_true, Ne, hzero]
  simp only [List.mem_range, not_forall, not_not, exists_prop]

theorem holds_eq_testSkips (c : TestCond) (a mask : Word) : c.holds (a &&& mask) = testSkips c a mask := by
  have hsome : (a &&& mask != 0) = someMasked a mask :=
    Bool.eq_iff_iff.mpr (bne_iff_ne.trans (someMasked_iff a mask).symm)
  cases c with
  | never => rfl
  | e => exact (Bool.not_not _).symm.trans (congrArg _ hsome)
  | a => rfl
  | n => exact hsome

-- The rows of the family

/-- The instructions of a row are the row's mask operation and condition in the four alignments. -/
structure TestsAndModifies (row : TestRow) : Prop where
  right : ∀ ac m s, exec (row.right ac m) s = testImmediate immediate row.modify row.cond ac m s
  left : ∀ ac m s, exec (row.left ac m) s = testImmediate leftImmediate row.modify row.cond ac m s
  direct : ∀ ac m s, exec (row.direct ac m) s = testMemory id row.modify row.cond ac m s
  swap : ∀ ac m s, exec (row.swap ac m) s = testMemory swapHalves row.modify row.cond ac m s

theorem testRow_testsAndModifies : ∀ row ∈ testRows, TestsAndModifies row := by
  simp only [testRows, List.forall_mem_cons, List.not_mem_nil, false_implies, implies_true, and_true]
  and_intros
  all_goals exact ⟨fun _ _ _ => rfl, fun _ _ _ => rfl, fun _ _ _ => rfl, fun _ _ _ => rfl⟩

/-- The opcode of a row in the alignment R (R440). -/
def testOpcode (row : TestRow) : BitVec 9 :=
  0o600 + 16 * (modifyCode row.modify).setWidth 9 + 2 * (testCode row.cond).setWidth 9

/-- The words of a row's instructions: the row's opcode, `lowbit` and `memgrp` of the alignment. -/
structure EncodesByAlignment (row : TestRow) : Prop where
  right : ∀ ac m, encode (row.right ac m) = basicWord (testOpcode row) ac m
  left : ∀ ac m, encode (row.left ac m) = basicWord (testOpcode row + 1) ac m
  direct : ∀ ac m, encode (row.direct ac m) = basicWord (testOpcode row + 8) ac m
  swap : ∀ ac m, encode (row.swap ac m) = basicWord (testOpcode row + 9) ac m

theorem testRow_encodesByAlignment : ∀ row ∈ testRows, EncodesByAlignment row := by
  simp only [testRows, List.forall_mem_cons, List.not_mem_nil, false_implies, implies_true, and_true]
  and_intros
  all_goals exact ⟨fun _ _ => rfl, fun _ _ => rfl, fun _ _ => rfl, fun _ _ => rfl⟩

-- The family through its operations

section
variable {i : Instr} {s : State} {m : AddrPart} {e : Offset} {ac : AcNum} {k : Modify} {c : TestCond} {mask new : Word}

theorem completes_testImmediate {f : Offset → Word} (hi : exec i s = testImmediate f k c ac m s)
    (he : s.effective m = .ok e) (hmask : mask = f e) (hnew : k.apply (s.ac ac) mask = new) :
    Completes i s (whenWritten (k ≠ .none) (acAddr ac, new)) s.flags
      (if testSkips c (s.ac ac) mask then skipPC s else s.returnPC) := by
  rw [Completes, hi, ← hnew, ← holds_eq_testSkips, hmask]
  exact does_testImmediate f k c he

theorem completes_testMemory {f : Word → Word} (hi : exec i s = testMemory f k c ac m s)
    (he : s.effective m = .ok e) (hp : s.present (s.sec e) = true) (hmask : mask = f (s.peek (s.sec e)))
    (hnew : k.apply (s.ac ac) mask = new) :
    Completes i s (whenWritten (k ≠ .none) (acAddr ac, new)) s.flags
      (if testSkips c (s.ac ac) mask then skipPC s else s.returnPC) := by
  rw [Completes, hi, ← hnew, ← holds_eq_testSkips, hmask]
  exact does_testMemory f k c he hp

end

/-- Settles O39: `new` is the accumulator after the mask operation by its bits, and each row is the shared operation in
its four alignments. -/
theorem testFamilyCompletes : Obligations.TestFamilyCompletes := by
  intro row hmem
  have hrow := testRow_testsAndModifies row hmem
  have hcode := testRow_encodesByAlignment row hmem
  constructor
  · rintro ac m _ rfl
    exact ⟨opField_of_basic (hcode.right ac m), opField_of_basic (hcode.left ac m),
      opField_of_basic (hcode.direct ac m), opField_of_basic (hcode.swap ac m)⟩
  · rintro s ac m e he _ mask new _ rfl hnew rfl _ rfl
    have happly : row.modify.apply (s.ac ac) mask = new := Modify.apply_eq hnew
    exact ⟨fun hmask => completes_testImmediate (hrow.right ac m s) he hmask happly,
      fun hmask => completes_testImmediate (hrow.left ac m s) he hmask happly,
      fun hp => ⟨fun hmask => completes_testMemory (hrow.direct ac m s) he hp hmask happly,
        fun hmask => completes_testMemory (hrow.swap ac m s) he hp hmask happly⟩⟩

end Sys2Proof.Machine
end

section
/-!
PROOFS. Program control (spec/47_program_control.md). Each instruction's meaning is followed to its effect. What is not
plain about it: the flag restore flag by flag (R28), the release of a level (R653), the flags that JFCL selects (R521),
and the count half of the stack pointer (R530, R533). The privileged functions are one operation, whose two outcomes are
two lemmas.
-/

namespace Sys2Proof.Machine

-- Flags one by one (R25)

theorem hasFlag_mask (f g : Flag) : hasFlag f.mask g = decide (f = g) := by
  cases f <;> cases g <;> rfl

theorem hasFlag_or_if (c : Bool) (a k : BitVec 13) (f : Flag) :
    hasFlag (if c then a ||| k else a) f = (hasFlag a f || (c && hasFlag k f)) := by
  cases c
  · exact (Bool.or_false _).symm
  · exact hasFlag_or a k f

theorem hasFlag_clear_if (c : Bool) (a k : BitVec 13) (f : Flag) :
    hasFlag (if c then a &&& ~~~k else a) f = (hasFlag a f && !(c && hasFlag k f)) := by
  cases c
  · exact (Bool.and_true _).symm
  · exact (hasFlag_and a _ f).trans (congrArg _ (hasFlag_not k f))

theorem ne_zero_iff_exists_hasFlag {a : BitVec 13} : a ≠ 0 ↔ ∃ f, hasFlag a f = true := by
  constructor
  · intro hne
    by_contra hnone
    refine hne (flags_ext fun f => ?_)
    have hzero : hasFlag 0 f = false := by simp [hasFlag]
    rw [hzero, Bool.eq_false_iff]
    exact fun hf => hnone ⟨f, hf⟩
  · rintro ⟨f, hf⟩ rfl
    simp [hasFlag] at hf

/-- A mask selects some flag that is 1 just when clearing it changes a flag. -/
theorem and_ne_zero_iff_clears {a k : BitVec 13} :
    a &&& k ≠ 0 ↔ ∃ f, hasFlag a f = true ∧ hasFlag (a &&& ~~~k) f = false := by
  rw [ne_zero_iff_exists_hasFlag]
  refine exists_congr fun f => ?_
  rw [hasFlag_and, hasFlag_and, hasFlag_not]
  cases hasFlag a f <;> simp

/-- The flag restore makes of each flag what R28 says. -/
theorem restoreFlags_restored (s : State) (w : Word) : Restored s.flags (s.restoreFlags w).flags w := by
  intro f
  unfold State.restoreFlags State.flag
  dsimp only
  rw [hasFlag_or_if, hasFlag_clear_if, hasFlag_or_if, hasFlag_headField]
  simp only [hasFlag_mask]
  cases f <;> simp [restoredFlag, flagBit]

-- The release of a level (R653)

/-- The controller after the level `l` is released. -/
def InterruptController.release (p : InterruptController) (l : Level) : InterruptController :=
  { p with held := p.held &&& ~~~l.mask, current := none }

theorem Level.getLsbD_mask (l k : Level) : l.mask.getLsbD (7 - k.toNat) = decide (l = k) := by
  cases l <;> cases k <;> rfl

theorem dismissed_release {p : InterruptController} {l : Level} (h : p.current = some l) :
    Dismissed p (p.release l) := by
  refine ⟨rfl, rfl, rfl, rfl, fun k => ?_⟩
  have hk : 7 - k.toNat < 7 := by cases k <;> decide
  simp [InterruptController.release, h, hk, Level.getLsbD_mask, -BitVec.getLsbD_eq_getElem]

theorem piDismiss_of_none {s : State} (h : s.pi.current = none) : s.piDismiss = s := by
  simp only [State.piDismiss, h]

theorem piDismiss_of_some {s : State} {l : Level} (h : s.pi.current = some l) :
    s.piDismiss = { s with pi := s.pi.release l } := by
  simp only [State.piDismiss, h, InterruptController.release]

-- The jumps that are always legal

variable {s t : State} {m : AddrPart} {e : Offset} {ac : AcNum} {last : Word}

theorem does_plainJump (he : s.effective m = .ok e) : Does (plainJump m s) s [] s.flags (s.sec e) :=
  does_finish_ok (by simp only [bind, Except.bind, he]; rfl) (effect_jumpTo (effect_refl s) _)

theorem does_execJrstf (hr : s.resolve m (basicWord 0o254 0o02 m) = .ok (e, last)) :
    Does (execJrstf m s) s [] (s.restoreFlags last).flags (s.sec e) :=
  does_finish_ok (by simp only [bind, Except.bind, hr]; rfl) (effect_jumpTo (effect_withFlags (effect_refl s) _) _)

/-- The four selected flags are the first four of FLAGS, in the order of the accumulator field. -/
theorem hasFlag_jfclMask (ac : AcNum) (f : Flag) : hasFlag (jfclMask ac) f = ac.getMsbD (flagBit f) := by
  cases f <;> revert ac <;> decide

theorem does_execJfcl (he : s.effective m = .ok e) :
    Does (execJfcl ac m s) s [] (s.flags &&& ~~~jfclMask ac)
      (if s.flags &&& jfclMask ac != 0 then s.sec e else s.returnPC) :=
  does_finish_ok (by simp only [bind, Except.bind, he]; rfl)
    (effect_jumpIf (effect_clearFlags (effect_refl s) _) _ _)

/-- Settles O44: JFCL jumps where its mask meets FLAGS, which is where the clear changes a flag. -/
theorem unprivilegedJumpsComplete : Obligations.UnprivilegedJumpsComplete := by
  refine ⟨fun ac m => ?_, fun s m e he => ⟨does_plainJump he, does_plainJump he,
    fun last hr => ⟨_, restoreFlags_restored s last, does_execJrstf hr⟩,
    fun ac => ⟨s.flags &&& ~~~jfclMask ac, fun f => ?_, fun hcleared => ?_, fun hkept => ?_⟩⟩⟩
  · simp only [heads_cons, heads_nil, and_true]
    and_intros <;> exact headField_of_basic rfl
  · rw [hasFlag_and, hasFlag_not, hasFlag_jfclMask]
    cases f <;> rfl
  · have hmeets : (s.flags &&& jfclMask ac != 0) = true := bne_iff_ne.mpr (and_ne_zero_iff_clears.mpr hcleared)
    exact does_congr (does_execJfcl he) rfl rfl (if_pos hmeets).symm
  · have hmisses : ¬ (s.flags &&& jfclMask ac != 0) = true := by
      rw [bne_iff_ne, and_ne_zero_iff_clears]
      rintro ⟨f, hset, hcleared⟩
      rw [hkept f, hcleared] at hset
      cases hset
    exact does_congr (does_execJfcl he) rfl rfl (if_neg hmisses).symm

-- The privileged functions (R515 to R517, R519)

theorem ioLegal_iff : s.ioLegal = true ↔ s.flag .usr = false ∨ s.flag .uio = true := by
  rw [State.ioLegal, Bool.or_eq_true, Bool.not_eq_true']

theorem ioLegal_eq_false (hu : s.flag .usr = true) (hi : s.flag .uio = false) : s.ioLegal = false := by
  rw [State.ioLegal, hu, hi]
  rfl

theorem execHalt_eq (he : s.effective m = .ok e) :
    exec (.halt m) s = finish (s.privileged (callHead 0o254 0o04) e { s.jumpTo e with running := false }) := by
  change execHalt m s = _
  simp only [execHalt, bind, Except.bind, he]

theorem execJrst10_eq (he : s.effective m = .ok e) :
    exec (.jrst10 m) s = finish (s.privileged (callHead 0o254 0o10) e (s.piDismiss.jumpTo e)) := by
  change execJrst10 m s = _
  simp only [execJrst10, bind, Except.bind, he]

theorem execJen_eq (hr : s.resolve m (basicWord 0o254 0o12 m) = .ok (e, last)) :
    exec (.jen m) s =
      finish (s.privileged (callHead 0o254 0o12) e ((s.restoreFlags last).piDismiss.jumpTo e)) := by
  change execJen m s = _
  simp only [execJen, bind, Except.bind, hr]

section
variable {i : Instr} {head : BitVec 13} (hi : exec i s = finish (s.privileged head e t))
include hi

/-- A privileged function where it is legal: the instruction's own next state. -/
theorem completesFrom_privileged {base : State} {f : BitVec 13} {p : VAddr} (hl : s.ioLegal = true)
    (ht : Effect base t [] f p) : CompletesFrom base i s [] f p :=
  ⟨t, by rw [hi, State.privileged, if_pos hl]; rfl, ht⟩

/-- A privileged function where it is not legal: a monitor call, whatever its own next state is. -/
theorem takesMuuo_privileged (hl : s.ioLegal = false) (hp : MuuoPossible s) : TakesMuuo i s head e := by
  rw [TakesMuuo, Completes, hi, State.privileged, hl]
  exact does_raiseMuuo hp

end

/-- Settles O45: each next state is the start with RUNNING cleared, FLAGS restored or the level released, then the
jump. -/
theorem privilegedJumpsComplete : Obligations.PrivilegedJumpsComplete := by
  refine ⟨fun m => ?_, fun s m e hlegal => ?_⟩
  · simp only [heads_cons, heads_nil, and_true]
    and_intros <;> exact headField_of_basic rfl
  have hl : s.ioLegal = true := ioLegal_iff.mpr hlegal
  refine ⟨fun he => ⟨?_, fun hnone => ?_, fun hsome => ?_⟩,
    fun last hr => ⟨_, restoreFlags_restored s last, fun hnone => ?_, fun hsome => ?_⟩⟩
  · exact completesFrom_privileged (execHalt_eq he) hl (effect_jumpTo (effect_refl { s with running := false }) e)
  · refine completesFrom_privileged (execJrst10_eq he) hl ?_
    rw [piDismiss_of_none hnone]
    exact effect_jumpTo (effect_refl s) e
  · obtain ⟨l, hcurrent⟩ := Option.ne_none_iff_exists'.mp hsome
    refine ⟨_, dismissed_release hcurrent, completesFrom_privileged (execJrst10_eq he) hl ?_⟩
    rw [piDismiss_of_some hcurrent]
    exact effect_jumpTo (effect_refl { s with pi := s.pi.release l }) e
  · refine completesFrom_privileged (execJen_eq hr) hl ?_
    rw [piDismiss_of_none (s := s.restoreFlags last) hnone]
    exact effect_jumpTo (effect_withFlags (effect_refl s) _) e
  · obtain ⟨l, hcurrent⟩ := Option.ne_none_iff_exists'.mp hsome
    refine ⟨_, dismissed_release hcurrent, completesFrom_privileged (execJen_eq hr) hl ?_⟩
    rw [piDismiss_of_some (s := s.restoreFlags last) hcurrent]
    exact effect_jumpTo (effect_withFlags (effect_refl { s with pi := s.pi.release l }) _) e

/-- Every row of the I/O format takes the common steps of R591 for its own operation, whose code is the row's. -/
theorem ioRow_is_ioInstruction : ∀ row ∈ ioRows, row.code = BitVec.ofNat 3 (ioCode row.op) ∧
    ∀ dev m s, ∃ needs onController onDevice,
      exec (row.instr dev m) s = ioInstruction row.op needs onController onDevice dev m s := by
  simp only [ioRows, List.forall_mem_cons, List.not_mem_nil, false_implies, implies_true, and_true]
  refine ⟨?_, ?_, ?_, ?_, ?_, ?_, ?_, ?_⟩
  all_goals exact ⟨rfl, fun _ _ _ => ⟨_, _, _, rfl⟩⟩

/-- The checks of an I/O instruction come before its operation, so where I/O is not legal it does not matter which. -/
theorem takesMuuo_ioInstruction {i : Instr} {op : IoOp} {needs : List IoOp} {dev : DevId}
    {onController onDevice : State → Offset → Except Fault State}
    (hi : exec i s = ioInstruction op needs onController onDevice dev m s) (he : s.effective m = .ok e)
    (hl : s.ioLegal = false) (hp : MuuoPossible s) : TakesMuuo i s (ioHead dev op) e := by
  have hroute : s.ioRoute dev needs = .monitorCall := by rw [State.ioRoute, hl]; rfl
  have hraise : exec i s = finish (s.raiseMuuo (ioHead dev op) e) := by
    rw [hi]
    simp only [ioInstruction, bind, Except.bind, he, hroute]
  rw [TakesMuuo, Completes, hraise]
  exact does_raiseMuuo hp

/-- Settles O46: the three functions and the eight I/O instructions test `IOLegal` before they do anything else. -/
theorem privilegedTakeMonitorCall : Obligations.PrivilegedTakeMonitorCall := by
  intro s m e hu hi he hp
  have hl : s.ioLegal = false := ioLegal_eq_false hu hi
  refine ⟨takesMuuo_privileged (execHalt_eq he) hl hp, takesMuuo_privileged (execJrst10_eq he) hl hp, ?_, ?_⟩
  · obtain ⟨last, hr⟩ := resolve_of_effective (basicWord 0o254 0o12 m) he
    exact takesMuuo_privileged (execJen_eq hr) hl hp
  · intro row hrow dev
    obtain ⟨hcode, hexec⟩ := ioRow_is_ioInstruction row hrow
    obtain ⟨_, _, _, hexec⟩ := hexec dev m s
    rw [hcode]
    exact takesMuuo_ioInstruction hexec he hl hp

-- The subroutine calls (R523 to R526)

theorem does_execJsp (he : s.effective m = .ok e) :
    Does (execJsp ac m s) s [(acAddr ac, returnWord s)] (linkageFlags s) (s.sec e) :=
  does_finish_ok (by simp only [bind, Except.bind, he]; rfl)
    (effect_jumpTo (effect_setAc (effect_clearOnSave (effect_refl s)) _ _) _)

theorem does_execJsr (he : s.effective m = .ok e) (hp : s.present (s.sec e) = true) :
    Does (execJsr ac m s) s [(s.sec e, returnWord s)] (linkageFlags s) (s.sec (e + 1)) :=
  does_finish_ok (by simp only [bind, Except.bind, he]; rw [writeMem_ok _ (by simpa using hp)]; rfl)
    (effect_jumpTo (effect_poke (effect_clearOnSave (effect_refl s)) _ _) _)

theorem does_execJsa (he : s.effective m = .ok e) (hp : s.present (s.sec e) = true) :
    Does (execJsa ac m s) s [(s.sec e, s.ac ac), (acAddr ac, e ++ offsetOf s.returnPC)] s.flags (s.sec (e + 1)) :=
  does_finish_ok (by simp only [bind, Except.bind, he, writeMem_ok _ hp]; rfl)
    (effect_jumpTo (effect_setAc (effect_poke (effect_refl s) _ _) _ _) _)

theorem does_execJra (he : s.effective m = .ok e) (hp : s.present (s.sec (lh (s.ac ac))) = true) :
    Does (execJra ac m s) s [(acAddr ac, s.peek (s.sec (lh (s.ac ac))))] s.flags (s.sec e) :=
  does_finish_ok (by simp only [bind, Except.bind, he, readMem_ok hp]; rfl)
    (effect_jumpTo (effect_setAc (effect_refl s) _ _) _)

/-- Settles O48: the four by their meanings; the return word is that of the state before the flag clears. -/
theorem subroutineCallsComplete : Obligations.SubroutineCallsComplete := by
  refine ⟨fun ac m => ?_, fun s ac m e he =>
    ⟨does_execJsp he, fun hp => ⟨does_execJsr (ac := ac) he hp, does_execJsa he hp⟩, does_execJra he⟩⟩
  simp only [opcodes_cons, opcodes_nil, and_true]
  and_intros <;> exact opField_of_basic rfl

-- The stack (R527 to R533)

theorem addHalves_neg_one (w : Word) : addHalves w (-1) = (lh w - 1) ++ (rh w - 1) := by
  rw [addHalves, ← BitVec.sub_eq_add_neg, ← BitVec.sub_eq_add_neg]
  rfl

theorem adjustCrosses_iff (count e : Half) : adjustCrosses count e = true ↔
    (0 ≤ e.toInt ∧ count.toInt < 0 ∧ 0 ≤ (count + e).toInt) ∨
      (e.toInt < 0 ∧ 0 ≤ count.toInt ∧ (count + e).toInt < 0) := by
  simp only [adjustCrosses, Bool.or_eq_true, Bool.and_eq_true, decide_eq_true_eq, and_assoc]

/-- TR2 on the instruction's test, in terms of the condition it tests. -/
theorem effect_setTrap2If_iff {ws : List (VAddr × Word)} {f : BitVec 13} {p : VAddr} {b : Bool} {c : Prop}
    [Decidable c] (hb : b = true ↔ c) (h : Effect s t ws f p) :
    Effect s (t.setTrap2If b) ws (if c then f ||| flagMask [.tr2] else f) p := by
  simp only [← hb]
  exact effect_setTrap2If h b

section
variable {up down : Word}

theorem does_execPushj (he : s.effective m = .ok e) (hup : up = addHalves (s.ac ac) 1)
    (hp : s.present (s.sec (rh up)) = true) :
    Does (execPushj ac m s) s [(acAddr ac, up), (s.sec (rh up), returnWord s)]
      (if lh up = 0 then linkageFlags s ||| flagMask [.tr2] else linkageFlags s) (s.sec e) := by
  subst hup
  exact does_finish_ok (by simp only [bind, Except.bind, he]; rw [writeMem_ok _ (by simpa using hp)]; rfl)
    (effect_jumpTo (effect_setTrap2If_iff beq_iff_eq
      (effect_poke (effect_clearOnSave (effect_setAc (effect_refl s) _ _)) _ _)) _)

theorem does_execPush (he : s.effective m = .ok e) (hup : up = addHalves (s.ac ac) 1)
    (hp : s.present (s.sec (rh up)) = true) (hq : s.present (s.sec e) = true) :
    Does (execPush ac m s) s [(acAddr ac, up), (s.sec (rh up), s.peek (s.sec e))] (flagsIf s (lh up = 0) [.tr2])
      s.returnPC := by
  subst hup
  exact does_finish_ok
    (by simp only [bind, Except.bind, operand_ok he hq]; rw [writeMem_ok _ (by simpa using hp)]; rfl)
    (effect_normal (effect_setTrap2If_iff beq_iff_eq (effect_poke (effect_setAc (effect_refl s) _ _) _ _)))

theorem does_execPopj (he : s.effective m = .ok e) (hdown : down = addHalves (s.ac ac) (-1))
    (hp : s.present (s.sec (rh (s.ac ac))) = true) :
    Does (execPopj ac m s) s [(acAddr ac, down)] (flagsIf s (lh down = 0o777777) [.tr2])
      (s.sec (rh (s.peek (s.sec (rh (s.ac ac)))))) := by
  subst hdown
  exact does_finish_ok (by simp only [bind, Except.bind, he, readMem_ok hp]; rfl)
    (effect_jumpTo (effect_setTrap2If_iff beq_iff_eq (effect_setAc (effect_refl s) _ _)) _)

theorem does_execPop (he : s.effective m = .ok e) (hdown : down = addHalves (s.ac ac) (-1))
    (hp : s.present (s.sec (rh (s.ac ac))) = true) (hq : s.present (s.sec e) = true) :
    Does (execPop ac m s) s [(acAddr ac, down), (s.sec e, s.peek (s.sec (rh (s.ac ac))))]
      (flagsIf s (lh down = 0o777777) [.tr2]) s.returnPC := by
  subst hdown
  exact does_finish_ok
    (by simp only [bind, Except.bind, he, readMem_ok hp]; rw [writeMem_ok _ (by simpa using hq)]; rfl)
    (effect_normal (effect_setTrap2If_iff beq_iff_eq (effect_poke (effect_setAc (effect_refl s) _ _) _ _)))

end

theorem does_execAdjsp (he : s.effective m = .ok e) :
    Does (execAdjsp ac m s) s [(acAddr ac, addHalves (s.ac ac) e)]
      (flagsIf s ((0 ≤ e.toInt ∧ (lh (s.ac ac)).toInt < 0 ∧ 0 ≤ (lh (s.ac ac) + e).toInt) ∨
        (e.toInt < 0 ∧ 0 ≤ (lh (s.ac ac)).toInt ∧ (lh (s.ac ac) + e).toInt < 0)) [.tr2]) s.returnPC :=
  does_finish_ok (by simp only [bind, Except.bind, he]; rfl)
    (effect_normal (effect_setTrap2If_iff (adjustCrosses_iff _ _) (effect_setAc (effect_refl s) _ _)))

/-- Settles O49: the pointer is written before the word, and `up` and `down` are the pointer with one added to each
half or taken from each. -/
theorem stackInstructionsComplete : Obligations.StackInstructionsComplete := by
  refine ⟨fun ac m => ?_, ?_⟩
  · simp only [opcodes_cons, opcodes_nil, and_true]
    and_intros <;> exact opField_of_basic rfl
  · rintro s ac m e _ up down he rfl hup hdown
    replace hdown := hdown.trans (addHalves_neg_one _).symm
    refine ⟨fun hp => ⟨does_execPushj he hup hp, does_execPush he hup hp⟩,
      fun hp => ⟨does_execPopj he hdown hp, does_execPop he hdown hp⟩, ?_⟩
    rintro _ rfl
    exact does_execAdjsp he

end Sys2Proof.Machine
end

section
/-!
PROOFS. Exceptions (spec/60_exceptions.md). What protects the mode is read off the kinds of completed instruction. Of
the cycle, the boundary is a trap, a grant or neither, and a chain of re-dispatches uses up what `MAX_XCT` allows. The
scan and the registry are both searches of a list that rises in its keys, so the first match is the least.
-/

namespace Sys2Proof.Machine

variable {s t : State}

-- The mode and what it protects (R660, R661)

/-- Two values of FLAGS with the same mode flags agree in each of them. -/
theorem hasFlag_of_modes {a b : BitVec 13} (h : a &&& modeMask = b &&& modeMask) (f : Flag)
    (hf : hasFlag modeMask f = true) : hasFlag a f = hasFlag b f := by
  have hmode := congrArg (hasFlag · f) h
  simpa only [hasFlag_and, hf, Bool.and_true] using hmode

/-- The flag clears of R529: four unprivileged flags, and in an interrupt cycle USR and PUB too. -/
theorem hasFlag_linkageFlags (s : State) (f : Flag) : hasFlag (linkageFlags s) f =
    (s.flag f && !hasFlag (flagMask [.fpd, .afi, .tr1, .tr2]) f
      && !(inCycle s .interrupt && hasFlag (flagMask [.usr, .pub]) f)) := by
  unfold linkageFlags
  dsimp only
  rw [hasFlag_clear_if, hasFlag_and, hasFlag_not]
  rfl

/-- An instruction whose next state is that of its own monitor call takes the monitor call. -/
theorem takesMuuo_of_raiseMuuo {i : Instr} {e : Offset} (h : exec i s = .next t)
    (hm : s.raiseMuuo i.head e = .ok t) : TakesMuuo i s i.head e := by
  obtain ⟨hpossible, _⟩ := raiseMuuo_next hm
  have hexec : exec i s = finish (s.raiseMuuo i.head e) := by rw [h, hm]; rfl
  rw [TakesMuuo, Completes, hexec]
  exact does_raiseMuuo hpossible

/-- The mode flags after a flag restore (R28): USR and PUB are never cleared, and user mode without UIO does not get
it. -/
theorem modes_of_restore {last : Word} (h : t.flags = (s.restoreFlags last).flags) :
    (s.flag .usr = true → t.flag .usr = true) ∧ (s.flag .pub = true → t.flag .pub = true) ∧
      (s.flag .usr = true → s.flag .uio = false → t.flag .uio = false) := by
  have hflag : ∀ f, t.flag f = restoredFlag s.flags last f := fun f => by
    rw [State.flag, h, restoreFlags_restored]
  rw [hflag .usr, hflag .pub, hflag .uio]
  refine ⟨fun hu => ?_, fun hp => ?_, fun hu hi => ?_⟩
  · exact Bool.or_eq_true_iff.mpr (.inr hu)
  · exact Bool.or_eq_true_iff.mpr (.inr hp)
  · change hasFlag s.flags .usr = true at hu
    change hasFlag s.flags .uio = false at hi
    simp [restoredFlag, hu, hi]

/-- Settles O14: the kinds of completed instruction one by one; only a monitor call, a restore and a save in an
interrupt cycle write a mode flag. -/
theorem modeChangesOnlyByTheseEvents : Obligations.ModeChangesOnlyByTheseEvents := by
  intro i s t h
  cases exec_kind i s t h with
  | ordinary ho => exact .inr (.inr (.inr (ordinary_flag ho)))
  | monitor e hm => exact .inl ⟨e, takesMuuo_of_raiseMuuo h hm⟩
  | restore m last hi _ hf => exact .inr (.inl ⟨⟨m, hi.imp_right And.left⟩, modes_of_restore hf⟩)
  | link ac m hi _ hf =>
    have hflag : ∀ f, hasFlag modeMask f = true → t.flag f = hasFlag (linkageFlags s) f := hasFlag_of_modes hf
    rw [hflag .usr (by decide), hflag .pub (by decide), hflag .uio (by decide)]
    simp only [hasFlag_linkageFlags]
    cases hc : inCycle s .interrupt with
    | true => exact .inr (.inr (.inl ⟨⟨ac, m, hi⟩, rfl, by simp [flagMask, hasFlag, Flag.mask]⟩))
    | false => exact .inr (.inr (.inr (by simp [flagMask, hasFlag, Flag.mask])))
  | halt m _ _ _ hf => exact .inr (.inr (.inr (by simp only [State.flag, hf, and_self])))
  | io _ _ hf => exact .inr (.inr (.inr (by simp only [State.flag, hf, and_self])))

/-- Settles O15: HALT, JRST 10 and I/O are legal where they complete as such, and in the other kinds nothing of it
changes. -/
theorem userModeCannotReachIo : Obligations.UserModeCannotReachIo := by
  intro i s t hl h
  have hnot : ¬ s.ioLegal = true := by rw [hl]; exact Bool.false_ne_true
  cases exec_kind i s t h with
  | ordinary ho => exact ⟨ho.pi, ho.devices, ho.ioLog, ho.running⟩
  | monitor e hm =>
    obtain ⟨_, _, hrunning, hpi, hdevices, hlog, _⟩ := raiseMuuo_next hm
    exact ⟨hpi, hdevices, hlog, hrunning⟩
  | restore m last _ _ _ hrunning hdevices hlog hpi => exact ⟨hpi hl, hdevices, hlog, hrunning⟩
  | link ac m _ _ _ hrunning hpi hdevices hlog => exact ⟨hpi, hdevices, hlog, hrunning⟩
  | halt m _ hlegal => exact absurd hlegal hnot
  | io hlegal => exact absurd hlegal hnot

-- A list that rises in some key: the first match is the least one

/-- In a list whose keys rise, searching gives the match of the least key. -/
theorem find?_eq_some_iff_least {α : Type} (key : α → Nat) (p : α → Bool) {a : α} {l : List α}
    (hl : l.Pairwise fun x y => key x < key y) :
    l.find? p = some a ↔ a ∈ l ∧ p a = true ∧ ∀ b ∈ l, p b = true → key a ≤ key b := by
  induction l with
  | nil => simp
  | cons x xs ih =>
    obtain ⟨hx, hxs⟩ := List.pairwise_cons.mp hl
    cases hpx : p x with
    | true =>
      rw [List.find?_cons_of_pos hpx, Option.some_inj]
      constructor
      · rintro rfl
        refine ⟨List.mem_cons_self, hpx, fun b hb _ => ?_⟩
        rcases List.mem_cons.mp hb with rfl | hb
        · exact le_rfl
        · exact (hx b hb).le
      · rintro ⟨ha, _, hleast⟩
        rcases List.mem_cons.mp ha with rfl | ha
        · rfl
        · exact absurd (hx a ha) (not_lt.mpr (hleast x List.mem_cons_self hpx))
    | false =>
      have hne : ∀ b, p b = true → b ≠ x := by
        rintro b hb rfl
        rw [hpx] at hb
        cases hb
      rw [List.find?_cons_of_neg (by rw [hpx]; exact Bool.false_ne_true), ih hxs]
      constructor
      · rintro ⟨ha, hpa, hleast⟩
        exact ⟨List.mem_cons_of_mem x ha, hpa, fun b hb hpb =>
          hleast b (List.mem_of_ne_of_mem (hne b hpb) hb) hpb⟩
      · rintro ⟨ha, hpa, hleast⟩
        exact ⟨List.mem_of_ne_of_mem (hne a hpa) ha, hpa, fun b hb => hleast b (List.mem_cons_of_mem x hb)⟩

-- The registry (R32)

theorem registryFrom_le {lo : Nat} {ds : List Device} (h : registryFrom lo ds = true) {d : Device} (hd : d ∈ ds) :
    lo ≤ d.id.toNat ∧ d.id ≠ 1 := by
  induction ds generalizing lo with
  | nil => cases hd
  | cons x xs ih =>
    simp only [registryFrom, Bool.and_eq_true, decide_eq_true_eq, bne_iff_ne] at h
    obtain ⟨⟨hlo, hx⟩, hxs⟩ := h
    rcases List.mem_cons.mp hd with rfl | hd
    · exact ⟨hlo, hx⟩
    · obtain ⟨hle, hne⟩ := ih hxs hd
      exact ⟨by omega, hne⟩

theorem registry_rises {lo : Nat} {ds : List Device} (h : registryFrom lo ds = true) :
    ds.Pairwise fun x y => x.id.toNat < y.id.toNat := by
  induction ds generalizing lo with
  | nil => exact .nil
  | cons x xs ih =>
    simp only [registryFrom, Bool.and_eq_true] at h
    obtain ⟨_, hxs⟩ := h
    exact .cons (fun y hy => (registryFrom_le hxs hy).1) (ih hxs)

-- The interrupt scan (R650)

theorem Level.mask_eq (l : Level) : l.mask = BitVec.twoPow 7 (7 - l.toNat) := by
  cases l <;> rfl

theorem inMask_eq (k : BitVec 7) (l : Level) : inMask k l = k.getLsbD (7 - l.toNat) := by
  rw [inMask, l.mask_eq, BitVec.and_twoPow]
  cases k.getLsbD (7 - l.toNat) with
  | false => rfl
  | true => cases l <;> rfl

theorem requests_iff (d : Device) (l : Level) :
    d.requests l = true ↔ d.pending = true ∧ d.level.toNat = l.toNat := by
  rw [Device.requests, Bool.and_eq_true, decide_eq_true_eq]

theorem moreUrgent_iff (l : Level) (current : Option Level) :
    moreUrgent l current = true ↔ ∀ c, current = some c → l.toNat < c.toNat := by
  cases current <;> simp [moreUrgent]

theorem candidate_iff (s : State) (l : Level) : s.candidate l = true ↔ ScanCandidate s l := by
  simp only [State.candidate, Bool.and_eq_true, Bool.or_eq_true, List.any_eq_true, inMask_eq, requests_iff,
    moreUrgent_iff, and_assoc]
  rfl

theorem mem_levels (l : Level) : l ∈ Level.all := by cases l <;> decide

theorem levels_rise : Level.all.Pairwise fun l k => l.toNat < k.toNat := by decide

/-- Settles O8: the scan searches the levels from the most urgent on. -/
theorem scanSelectsLowestCandidate : Obligations.ScanSelectsLowestCandidate := by
  intro s
  cases hon : s.pi.turnedOn with
  | false => simp [State.piScan, hon]
  | true =>
    have hscan : s.piScan = Level.all.find? s.candidate := by rw [State.piScan, hon]; rfl
    rw [hscan]
    constructor
    · intro l
      rw [find?_eq_some_iff_least Level.toNat _ levels_rise]
      simp only [candidate_iff, mem_levels, true_and, true_implies]
    · simp [candidate_iff, mem_levels]

-- The boundary (R620)

theorem trapDue_iff : s.trapDue = true ↔ (s.flag .tr1 = true ∨ s.flag .tr2 = true) ∧ s.pagingEn = true := by
  rw [State.trapDue, Bool.and_eq_true, Bool.or_eq_true]

/-- A cycle begins with nothing of the cycle before it (R35). -/
def State.freshCycle (s : State) : State := { s with exceptionCycle := none, redispatch := none }

theorem boundary_of_trapDue (h : s.trapDue = true) : s.boundary = (s.trapVector, s.freshCycle.takeTrap) :=
  if_pos h

theorem boundary_of_undiverted (h : ¬ s.trapDue = true) (hscan : s.piScan = none) :
    s.boundary = (s.pc, s.freshCycle) := by
  replace hscan : s.freshCycle.piScan = none := hscan
  refine (if_neg h).trans ?_
  unfold State.freshCycle at hscan
  rw [hscan]
  rfl

theorem boundary_of_scan {l : Level} (h : ¬ s.trapDue = true) (hscan : s.piScan = some l) :
    s.boundary = (s.interruptVector l, s.freshCycle.grant l) := by
  replace hscan : s.freshCycle.piScan = some l := hscan
  refine (if_neg h).trans ?_
  unfold State.freshCycle at hscan
  rw [hscan]
  rfl

/-- The two trap flags as one number (R641). -/
theorem trapVector_eq (s : State) : s.trapVector = (if s.flag .usr then s.params.uptBase else s.params.eptBase) + 0o420
    + BitVec.ofNat 30 ((s.flag .tr1).toNat + 2 * (s.flag .tr2).toNat) := by
  unfold State.trapVector
  rw [BitVec.add_assoc _ (if s.flag .tr1 then 1 else 0)]
  cases s.flag .tr1 <;> cases s.flag .tr2 <;> rfl

/-- Settles O6: a trap goes before the scan, and without paging the scan alone may divert the fetch. -/
theorem trapDivertsFetch : Obligations.TrapDivertsFetch := by
  refine ⟨fun s hflag hpaging => ?_, fun s hpaging => ?_⟩
  · rw [boundary_of_trapDue (trapDue_iff.mpr ⟨hflag, hpaging⟩), trapVector_eq]
    exact ⟨rfl, rfl⟩
  · have hdue : ¬ s.trapDue = true := fun h => by
      obtain ⟨_, h⟩ := trapDue_iff.mp h
      rw [hpaging] at h
      cases h
    cases hscan : s.piScan with
    | none =>
      rw [boundary_of_undiverted hdue hscan]
      exact ⟨rfl, rfl⟩
    | some l =>
      rw [boundary_of_scan hdue hscan]
      exact ⟨rfl, rfl⟩

/-- Settles O7: the registry rises in the devices' numbers, so the first requesting device has the lowest. -/
theorem interruptDivertsFetch : Obligations.InterruptDivertsFetch := by
  intro s hreg hflags
  have hdue : ¬ s.trapDue = true := mt trapDue_iff.mp hflags
  refine ⟨boundary_of_undiverted hdue, fun l hscan => ⟨(s.freshCycle.grant l).ioLog, ?_, fun hnone => ?_,
    fun d hd hpending hlevel hlowest => ?_⟩⟩
  · rw [boundary_of_scan hdue hscan, ← l.mask_eq]
    rfl
  · have hfind : s.devices.find? (fun d => d.requests l) = none :=
      List.find?_eq_none.mpr fun d hd => mt (requests_iff d l).mp (hnone d hd)
    simp only [State.grant, State.freshCycle, hfind]
  · have hfind : s.devices.find? (fun d => d.requests l) = some d :=
      (find?_eq_some_iff_least (fun d => d.id.toNat) _ (registry_rises hreg)).mpr
        ⟨hd, (requests_iff d l).mpr ⟨hpending, hlevel⟩, fun d' hd' hr => by
          obtain ⟨hp', hl'⟩ := (requests_iff d' l).mp hr
          exact hlowest d' hd' hp' hl'⟩
    simp only [State.grant, State.freshCycle, hfind]

/-- Settles O9: `nextPC` is the next address of the section, or the interrupted PC. -/
theorem returnAddressOfCycle : Obligations.ReturnAddressOfCycle := by
  refine fun s => ⟨fun hnone => ?_, fun k p hcycle => ?_⟩
  · rw [State.returnPC, hnone]
    exact ⟨sectionOf_append _ _, offsetOf_append _ _⟩
  · rw [State.returnPC, hcycle]

-- The dispatch loop (R522, R625)

section
variable {u : State} {w v : Word} {fuel : Nat}

theorem runChain_last (h : exec (decode w) s = .next u) (hr : u.redispatch = none) : runChain fuel w s = .next u := by
  rw [runChain, execWord, h]
  simp only [hr]

theorem runChain_fault {f : Fault} (h : exec (decode w) s = .fault f) : runChain fuel w s = .fault f := by
  rw [runChain, execWord, h]

theorem runChain_follow (h : exec (decode w) s = .next u) (hr : u.redispatch = some v) :
    runChain (fuel + 1) w s = runChain fuel v { u with redispatch := none } := by
  rw [runChain, execWord, h]
  simp only [hr]

theorem runChain_limit (h : exec (decode w) s = .next u) (hr : u.redispatch = some v) :
    runChain 0 w s = .fault .xctLoop := by
  rw [runChain, execWord, h]
  simp only [hr]

/-- `n` re-dispatches use up `n` of those allowed. -/
theorem runChain_of_redispatches {n : Nat} (h : Redispatches s w n t v) :
    runChain (fuel + n) w s = runChain fuel v t := by
  induction h with
  | here s w => rfl
  | next s u t w w' v n hexec hr _ ih => rw [← Nat.add_assoc, runChain_follow hexec hr, ih]

end

section
variable {a : VAddr} {b : State} (hrun : s.running = true) (hb : s.boundary = (a, b)) (hp : b.present a = true)
include hrun hb hp

/-- A step whose fetch is possible ends its cycle in the state that the dispatch loop ends in. -/
theorem step_of_runChain_next (h : runChain s.params.maxXct (b.peek a) b = .next t) : step s = .next t.endCycle := by
  rw [step_of_running hrun]
  simp only [cycle, hb, readMem_ok hp, h]

/-- A step whose fetch is possible faults where the dispatch loop faults. -/
theorem step_of_runChain_fault {f : Fault} (h : runChain s.params.maxXct (b.peek a) b = .fault f) :
    step s = .fault f := by
  rw [step_of_running hrun]
  simp only [cycle, hb, readMem_ok hp, h]

end

/-- Settles O5: the chain of re-dispatches runs down what `MAX_XCT` allows, and its end is the cycle's. -/
theorem stepFollowsRedispatches : Obligations.StepFollowsRedispatches := by
  intro s b t a v n hrun hb hp hchain hn
  obtain ⟨fuel, hfuel⟩ := Nat.exists_eq_add_of_le' hn
  have hrest : runChain s.params.maxXct (b.peek a) b = runChain fuel v t := by
    rw [hfuel, runChain_of_redispatches hchain]
  refine ⟨fun u hu hr => ?_, fun f hf => ?_, fun u w hu hr hlast => ?_⟩
  · exact step_of_runChain_next hrun hb hp (hrest.trans (runChain_last hu hr))
  · exact step_of_runChain_fault hrun hb hp (hrest.trans (runChain_fault hf))
  · obtain rfl : fuel = 0 := by omega
    exact step_of_runChain_fault hrun hb hp (hrest.trans (runChain_limit hu hr))

/-- Settles O4: the case of O5 in which nothing diverts the fetch and there is no re-dispatch. -/
theorem stepRunsDecodedInstruction : Obligations.StepRunsDecodedInstruction := by
  intro s i hrun hflags hscan hp hi
  have hb : s.boundary = (s.pc, s.freshCycle) := boundary_of_undiverted (mt trapDue_iff.mp hflags) hscan
  obtain ⟨hnext, hfault, _⟩ :=
    stepFollowsRedispatches s _ _ _ _ 0 hrun hb hp (.here _ _) (Nat.zero_le _)
  rw [show decode (s.freshCycle.peek s.pc) = i from hi] at hnext hfault
  exact ⟨hnext, hfault⟩

-- The device interface (R591, R655)

/-- The devices after a handler call: each keeps its number and its capabilities, and those not called are as before. -/
theorem deviceCall_devices (s : State) (dev : DevId) (ev : IoEvent) :
    ∃ f : Device → Device, (s.deviceCall dev ev).devices = s.devices.map f ∧
      (∀ d, (f d).id = d.id ∧ (f d).caps = d.caps) ∧ ∀ d, d.id ≠ dev → f d = d := by
  refine ⟨_, rfl, fun d => ?_, fun d hd => if_neg hd⟩
  by_cases hd : d.id = dev
  · rw [if_pos hd]
    exact ⟨rfl, rfl⟩
  · rw [if_neg hd]
    exact ⟨rfl, rfl⟩

theorem clearDevices_eq (icount : Nat) (ds : List Device) (log : List IoEvent) :
    (∀ d ∈ (clearDevices icount ds log).1, d.pending = false) ∧
      (clearDevices icount ds log).1.map (fun d => (d.id, d.caps)) = ds.map (fun d => (d.id, d.caps)) ∧
      (clearDevices icount ds log).2 = (ds.map fun d => IoEvent.clearIO d.id).reverse ++ log := by
  induction ds generalizing log with
  | nil => exact ⟨nofun, rfl, rfl⟩
  | cons d ds ih =>
    obtain ⟨hpending, hkept, hlog⟩ := ih (.clearIO d.id :: log)
    refine ⟨List.forall_mem_cons.mpr ⟨rfl, hpending⟩, congrArg (List.cons _) hkept, ?_⟩
    rw [clearDevices, hlog, List.map_cons, List.reverse_cons, List.append_assoc]
    rfl

/-- Settles O18: a handler call maps the registry device by device, and `ClearIO` goes through it once. -/
theorem deviceInterfaceKeepsTheRest : Obligations.DeviceInterfaceKeepsTheRest := by
  refine ⟨fun s dev ev => ?_, fun s => ?_⟩
  · obtain ⟨f, hf, hsame, hother⟩ := deviceCall_devices s dev ev
    refine ⟨rfl, ?_, fun d hd => ?_, rfl⟩
    · rw [hf, List.map_map]
      exact List.map_congr_left fun d _ => Prod.ext (hsame d).1 (hsame d).2
    · rw [hf, List.mem_map]
      constructor
      · rintro ⟨x, hx, rfl⟩
        rw [(hsame x).1] at hd
        rwa [hother x hd]
      · exact fun hmem => ⟨d, hmem, hother d hd⟩
  · obtain ⟨hpending, hkept, hlog⟩ := clearDevices_eq s.icount s.devices s.ioLog
    exact ⟨rfl, hpending, hkept, hlog, rfl⟩

end Sys2Proof.Machine
end

section
/-!
PROOFS. Monitor calls, local calls and I/O (spec/49_uuo_and_io.md). The opcodes of a call are rows of one shared
operation. An I/O instruction takes the common steps of R591, so each outcome is its route, then what the routine at the
end of the route does.
-/

namespace Sys2Proof.Machine

variable {s t : State} {m : AddrPart} {e : Offset} {ac : AcNum}

-- Monitor calls and unassigned opcodes (R581, R582)

/-- Every opcode of the list is the call `call` of that opcode. -/
def CallRows (call : BitVec 9 → AcNum → AddrPart → State → Result)
    (rows : List (BitVec 9 × (AcNum → AddrPart → Instr))) : Prop :=
  ∀ row ∈ rows, ∀ ac m, encode (row.2 ac m) = basicWord row.1 ac m ∧ ∀ s, exec (row.2 ac m) s = call row.1 ac m s

theorem monitorCalls_rows : CallRows monitorCall monitorCalls := by
  simp only [CallRows, monitorCalls, List.forall_mem_cons, List.not_mem_nil, false_implies, implies_true, and_true]
  and_intros <;> exact fun _ _ => ⟨rfl, fun _ => rfl⟩

theorem localCalls_rows : CallRows localCall localCalls := by
  simp only [CallRows, localCalls, List.forall_mem_cons, List.not_mem_nil, false_implies, implies_true, and_true]
  and_intros <;> exact fun _ _ => ⟨rfl, fun _ => rfl⟩

theorem unassignedOpcodes_rows : CallRows unassignedCall unassignedOpcodes := by
  simp only [CallRows, unassignedOpcodes, List.forall_mem_cons, List.not_mem_nil, false_implies, implies_true, and_true]
  and_intros <;> exact fun _ _ => ⟨rfl, fun _ => rfl⟩

/-- A function code with no handler is the unassigned call of opcode 0254 with that code in the accumulator field. -/
theorem unassignedFunctions_rows : ∀ row ∈ unassignedFunctions, ∀ m,
    encode (row.2 m) = basicWord 0o254 row.1 m ∧ ∀ s, exec (row.2 m) s = unassignedCall 0o254 row.1 m s := by
  simp only [unassignedFunctions, List.forall_mem_cons, List.not_mem_nil, false_implies, implies_true, and_true]
  and_intros <;> exact fun _ => ⟨rfl, fun _ => rfl⟩

/-- Settles O56: each row is the shared call of its opcode, or of 0254 and its function code. -/
theorem monitorCallsComplete : Obligations.MonitorCallsComplete := by
  refine ⟨fun ac m => ⟨fun row hrow => ?_, fun row hrow => headField_of_basic (unassignedFunctions_rows row hrow m).1⟩,
    fun s ac m e he => ⟨fun hp row hrow => ?_,
      fun hu hp => ⟨fun row hrow => ?_, fun row hrow => ?_⟩, fun hu => ⟨fun row hrow => ?_, fun row hrow => ?_⟩⟩⟩
  · rcases List.mem_append.mp hrow with hrow | hrow
    · exact opField_of_basic (monitorCalls_rows row hrow ac m).1
    · exact opField_of_basic (unassignedOpcodes_rows row hrow ac m).1
  · rw [TakesMuuo, Completes, (monitorCalls_rows row hrow ac m).2]
    exact does_monitorCall he hp
  · rw [TakesMuuo, Completes, (unassignedOpcodes_rows row hrow ac m).2]
    exact does_unassignedCall he hu hp
  · rw [TakesMuuo, Completes, (unassignedFunctions_rows row hrow m).2]
    exact does_unassignedCall he hu hp
  · rw [(unassignedOpcodes_rows row hrow ac m).2]
    exact unassignedCall_refused he hu
  · rw [(unassignedFunctions_rows row hrow m).2]
    exact unassignedCall_refused he hu

-- Re-dispatches (R522, R580)

section
variable {ws : List (VAddr × Word)} {f : BitVec 13} {p : VAddr}

/-- A re-dispatch asked for is part of the control state and changes no effect on the rest. -/
theorem effect_redispatchWith (h : Effect s t ws f p) (w : Word) :
    Effect { s with redispatch := some w } (t.redispatchWith w) ws f p :=
  ⟨h.storage, h.banks, h.flags, h.pc, { h.control with redispatch := rfl }⟩

end

theorem sec_inj {a b : Offset} : s.sec a = s.sec b ↔ a = b := by
  refine ⟨fun h => ?_, congrArg s.sec⟩
  have hoffset := congrArg offsetOf h
  rwa [offsetOf_sec, offsetOf_sec] at hoffset

theorem does_execXct (he : s.effective m = .ok e) (hp : s.present (s.sec e) = true) :
    Does (execXct ac m s) { s with redispatch := some (s.peek (s.sec e)) } [] s.flags s.pc :=
  does_finish_ok (by simp only [bind, Except.bind, operand_ok he hp]; rfl) (effect_redispatchWith (effect_refl s) _)

/-- The word at `sec(041)` is read after the write at `sec(040)`, which is another address. -/
theorem does_localCall {op : BitVec 9} (he : s.effective m = .ok e) (hp : s.present (s.sec 0o40) = true)
    (hq : s.present (s.sec 0o41) = true) :
    Does (localCall op ac m s) { s with redispatch := some (s.peek (s.sec 0o41)) }
      [(s.sec 0o40, op ++ ac ++ (0#5) ++ e)] s.flags s.pc := by
  have hne : s.sec 0o41 ≠ s.sec 0o40 := mt sec_inj.mp (by decide)
  have hread (v : Word) : (s.poke (s.sec 0o40) v).readMem ((s.poke (s.sec 0o40) v).sec 0o41) =
      .ok (s.peek (s.sec 0o41)) := by
    rw [readMem_ok (by simpa using hq), State.poke_sec, peek_poke, if_neg hne]
  exact does_finish_ok (by simp only [bind, Except.bind, he, writeMem_ok _ hp, hread]; rfl)
    (effect_redispatchWith (effect_poke (effect_refl s) _ _) _)

/-- Settles O47: the two re-dispatches by their meanings. -/
theorem executeAndLocalCallRedispatch : Obligations.ExecuteAndLocalCallRedispatch := by
  refine ⟨fun ac m => ⟨opField_of_basic rfl, fun row hrow => opField_of_basic (localCalls_rows row hrow ac m).1⟩,
    fun s ac m e he => ⟨does_execXct (ac := ac) he, fun row hrow hp hq => ?_⟩⟩
  rw [CompletesFrom, (localCalls_rows row hrow ac m).2]
  exact does_localCall he hp hq

-- The routes of an I/O instruction (R591)

section
variable {dev : DevId} {d : Device} {needs : List IoOp} (hl : s.ioLegal = true)
include hl

theorem ioRoute_controller : s.ioRoute 1 needs = .controller := by
  rw [State.ioRoute, hl]
  rfl

theorem ioRoute_unknown (hdev : dev ≠ 1) (hnone : ∀ d ∈ s.devices, d.id ≠ dev) : s.ioRoute dev needs = .unknown := by
  have hfind : s.findDevice dev = none := List.find?_eq_none.mpr fun d hd => mt beq_iff_eq.mp (hnone d hd)
  simp only [State.ioRoute, hl, hdev, hfind, Bool.not_true, Bool.false_eq_true, if_false]

/-- A number that the registry has is found there: no other entry has it, and it is not the controller's (R32). -/
theorem ioRoute_of_mem (hreg : registryFrom 0 s.devices = true) (hd : d ∈ s.devices) :
    s.ioRoute d.id needs = if needs.all d.implements then .device else .unimplemented := by
  obtain ⟨_, hne⟩ := registryFrom_le hreg hd
  have hfind : s.findDevice d.id = some d :=
    (find?_eq_some_iff_least (fun x => x.id.toNat) _ (registry_rises hreg)).mpr
      ⟨hd, beq_iff_eq.mpr rfl, fun x _ hx => by rw [beq_iff_eq.mp hx]⟩
  simp only [State.ioRoute, hl, hne, hfind, Bool.not_true, Bool.false_eq_true, if_false]

theorem ioRoute_device (hreg : registryFrom 0 s.devices = true) (hd : d ∈ s.devices)
    (hcaps : ∀ op ∈ needs, d.caps.getLsbD (ioCode op) = true) : s.ioRoute d.id needs = .device := by
  have hall : needs.all d.implements = true := List.all_eq_true.mpr hcaps
  rw [ioRoute_of_mem hl hreg hd, if_pos hall]

theorem ioRoute_unimplemented (hreg : registryFrom 0 s.devices = true) (hd : d ∈ s.devices) {op : IoOp}
    (hop : op ∈ needs) (hcap : d.caps.getLsbD (ioCode op) = false) : s.ioRoute d.id needs = .unimplemented := by
  have hall : ¬ needs.all d.implements = true := fun h => by
    have himpl : d.caps.getLsbD (ioCode op) = true := List.all_eq_true.mp h op hop
    rw [hcap] at himpl
    cases himpl
  rw [ioRoute_of_mem hl hreg hd, if_neg hall]

end

section
variable {i : Instr} {op : IoOp} {needs : List IoOp} {onController onDevice : State → Offset → Except Fault State}
  {dev : DevId} (hi : exec i s = ioInstruction op needs onController onDevice dev m s) (he : s.effective m = .ok e)
include hi he

theorem exec_on_controller (hroute : s.ioRoute dev needs = .controller) : exec i s = finish (onController s e) := by
  rw [hi]
  simp only [ioInstruction, bind, Except.bind, he, hroute]

theorem exec_on_device (hroute : s.ioRoute dev needs = .device) : exec i s = finish (onDevice s e) := by
  rw [hi]
  simp only [ioInstruction, bind, Except.bind, he, hroute]

theorem exec_on_unknown (hroute : s.ioRoute dev needs = .unknown) : exec i s = finish (s.unknownDevice dev) := by
  rw [hi]
  simp only [ioInstruction, bind, Except.bind, he, hroute]

theorem exec_on_unimplemented (hroute : s.ioRoute dev needs = .unimplemented) :
    exec i s = finish (s.unimplemented dev op) := by
  rw [hi]
  simp only [ioInstruction, bind, Except.bind, he, hroute]

end

-- An unknown device and a missing operation (R597)

theorem does_unknownDevice (dev : DevId) (h : s.params.ioPolicy = .continue) :
    Does (finish (s.unknownDevice dev)) { s with ioLog := .noSuchDevice dev :: s.ioLog } [] s.flags s.returnPC :=
  does_finish_ok (by rw [State.unknownDevice, h]) (effect_normal (effect_refl _))

theorem unknownDevice_fault (dev : DevId) (h : s.params.ioPolicy = .fault) :
    finish (s.unknownDevice dev) = .fault (.noSuchDevice dev) := by
  rw [State.unknownDevice, h]
  rfl

theorem does_unimplemented (dev : DevId) (op : IoOp) (h : s.params.ioPolicy = .continue) :
    Does (finish (s.unimplemented dev op)) { s with ioLog := .notImplemented dev op :: s.ioLog } [] s.flags
      s.returnPC :=
  does_finish_ok (by rw [State.unimplemented, h]) (effect_normal (effect_refl _))

theorem unimplemented_fault (dev : DevId) (op : IoOp) (h : s.params.ioPolicy = .fault) :
    finish (s.unimplemented dev op) = .fault (.ioNotImplemented dev op) := by
  rw [State.unimplemented, h]
  rfl

/-- Every row of the I/O format takes the common steps with the row's capabilities, and the controller refuses the first
four operations (R591, R652). -/
theorem ioRow_steps : ∀ row ∈ ioRows, ∃ (needs : List IoOp) (onController : State → Offset → Except Fault State)
    (onDevice : DevId → State → Offset → Except Fault State), needs.map ioCode = row.needs ∧
    (row.code.toNat < 4 → onController = controllerRefuses row.op) ∧
    ∀ dev m s, exec (row.instr dev m) s = ioInstruction row.op needs onController (onDevice dev) dev m s := by
  simp only [ioRows, List.forall_mem_cons, List.not_mem_nil, false_implies, implies_true, and_true]
  refine ⟨?_, ?_, ?_, ?_, ?_, ?_, ?_, ?_⟩
  · exact ⟨_, _, blockIn, rfl, fun _ => rfl, fun _ _ _ => rfl⟩
  · exact ⟨_, _, dataIn, rfl, fun _ => rfl, fun _ _ _ => rfl⟩
  · exact ⟨_, _, blockOut, rfl, fun _ => rfl, fun _ _ _ => rfl⟩
  · exact ⟨_, _, dataOut, rfl, fun _ => rfl, fun _ _ _ => rfl⟩
  · exact ⟨_, controllerCono, conditionsOut, rfl, fun h => absurd h (by decide), fun _ _ _ => rfl⟩
  · exact ⟨_, controllerConi, conditionsIn, rfl, fun h => absurd h (by decide), fun _ _ _ => rfl⟩
  · exact ⟨_, controllerConsz, skipOnZero, rfl, fun h => absurd h (by decide), fun _ _ _ => rfl⟩
  · exact ⟨_, controllerConso, skipOnNonzero, rfl, fun h => absurd h (by decide), fun _ _ _ => rfl⟩

/-- Settles O58: the route is the unknown device's, the controller's refusal or the missing operation's, and each is
decided by `IO_POLICY`. -/
theorem missingDeviceOrOperation : Obligations.MissingDeviceOrOperation := by
  intro s m e dev hreg hlegal he row hrow
  have hl : s.ioLegal = true := ioLegal_iff.mpr hlegal
  obtain ⟨needs, onController, onDevice, hneeds, hrefuses, hexec⟩ := ioRow_steps row hrow
  refine ⟨fun hdev hnone => ?_, fun hmissing => ?_⟩
  · rw [CompletesFrom, exec_on_unknown (hexec dev m s) he (ioRoute_unknown hl hdev hnone)]
    exact ⟨does_unknownDevice dev, unknownDevice_fault dev⟩
  · have hrefused : exec (row.instr dev m) s = finish (s.unimplemented dev row.op) := by
      rcases hmissing with ⟨rfl, hcode⟩ | ⟨d, hd, rfl, k, hk, hcap⟩
      · rw [exec_on_controller (hexec 1 m s) he (ioRoute_controller hl), hrefuses hcode]
        rfl
      · rw [← hneeds] at hk
        obtain ⟨op, hop, rfl⟩ := List.mem_map.mp hk
        exact exec_on_unimplemented (hexec d.id m s) he (ioRoute_unimplemented hl hreg hd hop hcap)
    rw [CompletesFrom, hrefused]
    exact ⟨does_unimplemented dev row.op, unimplemented_fault dev row.op⟩

-- The operations on a device (R592 to R600)

section
variable {ws : List (VAddr × Word)} {f : BitVec 13} {p : VAddr}

/-- A handler call changes the history and the registry by what they were, and no effect on the rest. -/
theorem effect_deviceCall (h : Effect s t ws f p) (dev : DevId) (ev : IoEvent) :
    Effect (s.deviceCall dev ev) (t.deviceCall dev ev) ws f p := by
  obtain ⟨hacblk, hpaging, hrunning, hpi, hdevices, hicount, hcycle, hredispatch, hlog, hparams⟩ := h.control
  refine ⟨h.storage, h.banks, h.flags, h.pc, hacblk, hpaging, hrunning, hpi, ?_, hicount, hcycle, hredispatch, ?_,
    hparams⟩
  · simp only [State.deviceCall, hdevices, hicount, hlog]
  · simp only [State.deviceCall, hlog]

/-- A skip on the instruction's test, in terms of the condition it tests. -/
theorem effect_skipIf_iff {b : Bool} {c : Prop} [Decidable c] (hb : b = true ↔ c) (h : Effect s t ws f s.pc) :
    Effect s (t.skipIf b) ws f (if c then skipPC s else s.returnPC) := by
  simp only [← hb]
  exact effect_skipIf h b

/-- A skip on the opposite of a condition. -/
theorem effect_skipIf_iff_not {b : Bool} {c : Prop} [Decidable c] (hb : b = true ↔ ¬ c) (h : Effect s t ws f s.pc) :
    Effect s (t.skipIf b) ws f (if c then s.returnPC else skipPC s) := by
  rw [← ite_not]
  exact effect_skipIf_iff hb h

end

section
variable (dev : DevId) (s : State) (e : Offset)

theorem does_conditionsOut :
    Does (finish (conditionsOut dev s e)) (s.deviceCall dev (.condOut dev e)) [] s.flags s.returnPC :=
  does_finish_ok rfl (effect_normal (effect_refl _))

theorem does_skipOnZero :
    Does (finish (skipOnZero dev s e)) (s.deviceCall dev (.condIn dev)) [] s.flags
      (if s.deviceWord (.condIn dev) &&& immediate e = 0 then skipPC s else s.returnPC) :=
  does_finish_ok rfl (effect_skipIf_iff (s := s.deviceCall dev (.condIn dev)) beq_iff_eq (effect_refl _))

theorem does_skipOnNonzero :
    Does (finish (skipOnNonzero dev s e)) (s.deviceCall dev (.condIn dev)) [] s.flags
      (if s.deviceWord (.condIn dev) &&& immediate e = 0 then s.returnPC else skipPC s) :=
  does_finish_ok rfl (effect_skipIf_iff_not (s := s.deviceCall dev (.condIn dev)) bne_iff_ne (effect_refl _))

end

/-- The skip of BLKI and BLKO in the terms of R592. -/
theorem blockSkips_iff {p next : Word} (hnext : next = blockStep p) :
    s.blockSkips p = true ↔ decide (lh next = 0) = s.params.blkSkipOnCarry := by
  subst hnext
  exact beq_iff_eq

section
variable {dev : DevId} (hp : s.present (s.sec e) = true)
include hp

theorem does_conditionsIn :
    Does (finish (conditionsIn dev s e)) (s.deviceCall dev (.condIn dev))
      [(s.sec e, s.deviceWord (.condIn dev))] s.flags s.returnPC :=
  does_finish_ok
    (by simp only [conditionsIn, bind, Except.bind, writeMem_ok (s := s.deviceCall dev (.condIn dev)) _ hp]; rfl)
    (effect_normal (effect_poke (effect_refl _) _ _))

theorem does_dataIn :
    Does (finish (dataIn dev s e)) (s.deviceCall dev (.dataIn dev)) [(s.sec e, s.deviceWord (.dataIn dev))] s.flags
      s.returnPC :=
  does_finish_ok
    (by simp only [dataIn, bind, Except.bind, writeMem_ok (s := s.deviceCall dev (.dataIn dev)) _ hp]; rfl)
    (effect_normal (effect_poke (effect_refl _) _ _))

theorem does_dataOut :
    Does (finish (dataOut dev s e)) (s.deviceCall dev (.dataOut dev (s.peek (s.sec e)))) [] s.flags s.returnPC :=
  does_finish_ok (by simp only [dataOut, bind, Except.bind, readMem_ok hp]; rfl) (effect_normal (effect_refl _))

/-- The device is asked after the control word was stored, and its word is stored last. -/
theorem does_blockIn {next : Word} (hnext : next = blockStep (s.peek (s.sec e)))
    (hq : s.present (s.sec (rh next)) = true) :
    Does (finish (blockIn dev s e)) (s.deviceCall dev (.dataIn dev))
      [(s.sec e, next), (s.sec (rh next), s.deviceWord (.dataIn dev))] s.flags
      (if decide (lh next = 0) = s.params.blkSkipOnCarry then skipPC s else s.returnPC) := by
  have hword : (s.poke (s.sec e) next).deviceWord (.dataIn dev) = s.deviceWord (.dataIn dev) := by
    simp only [State.deviceWord, State.poke_ioLog, State.poke_icount]
  have hok : blockIn dev s e = .ok ((((s.poke (s.sec e) next).deviceCall dev (.dataIn dev)).poke (s.sec (rh next))
      (s.deviceWord (.dataIn dev))).skipIf (s.blockSkips (s.peek (s.sec e)))) := by
    simp only [blockIn, bind, Except.bind, readMem_ok hp, ← hnext, writeMem_ok _ hp, State.poke_sec, hword]
    rw [writeMem_ok _ (by simpa using hq)]
    rfl
  exact does_finish_ok hok (effect_skipIf_iff (s := s.deviceCall dev (.dataIn dev)) (blockSkips_iff hnext)
    (effect_poke (effect_deviceCall (effect_poke (effect_refl s) _ _) _ _) _ _))

/-- The word for the device is read after the control word was stored. -/
theorem does_blockOut {next word : Word} (hnext : next = blockStep (s.peek (s.sec e)))
    (hq : s.present (s.sec (rh next)) = true)
    (hword : word = overwrite s.peek [(s.sec e, next)] (s.sec (rh next))) :
    Does (finish (blockOut dev s e)) (s.deviceCall dev (.dataOut dev word)) [(s.sec e, next)] s.flags
      (if decide (lh next = 0) = s.params.blkSkipOnCarry then skipPC s else s.returnPC) := by
  have hstored : Effect s (s.poke (s.sec e) next) [(s.sec e, next)] s.flags s.pc := effect_poke (effect_refl s) _ _
  rw [← effect_peek hstored] at hword
  have hok : blockOut dev s e = .ok (((s.poke (s.sec e) next).deviceCall dev (.dataOut dev word)).skipIf
      (s.blockSkips (s.peek (s.sec e)))) := by
    simp only [blockOut, bind, Except.bind, readMem_ok hp, ← hnext, writeMem_ok _ hp, State.poke_sec]
    rw [readMem_ok (by simpa using hq), ← hword]
    rfl
  exact does_finish_ok hok (effect_skipIf_iff (s := s.deviceCall dev (.dataOut dev word)) (blockSkips_iff hnext)
    (effect_deviceCall hstored _ _))

end

/-- Settles O57: where the device has the capabilities the route is the device's, and each operation is followed to its
effect. -/
theorem deviceInstructionsComplete : Obligations.DeviceInstructionsComplete := by
  refine ⟨?_, fun s d m e hreg hd hlegal he => ?_⟩
  · simp only [ioRows, List.forall_mem_cons, List.not_mem_nil, false_implies, implies_true, and_true]
    and_intros <;> exact fun _ _ => headField_of_io rfl
  have hl : s.ioLegal = true := ioLegal_iff.mpr hlegal
  have hroute : ∀ needs : List IoOp, (∀ op ∈ needs, d.caps.getLsbD (ioCode op) = true) →
      s.ioRoute d.id needs = .device := fun _ => ioRoute_device hl hreg hd
  simp only [CompletesFrom]
  refine ⟨fun hcap => ?_, ?_, fun hp => ?_⟩
  · rw [exec_on_device (i := .cono d.id m) rfl he (hroute _ (List.forall_mem_singleton.mpr hcap))]
    exact does_conditionsOut d.id s e
  · rintro _ rfl
    refine ⟨fun hcap => ?_, fun hcap => ?_, fun hcap hp => ?_⟩
    · rw [exec_on_device (i := .consz d.id m) rfl he (hroute _ (List.forall_mem_singleton.mpr hcap))]
      exact does_skipOnZero d.id s e
    · rw [exec_on_device (i := .conso d.id m) rfl he (hroute _ (List.forall_mem_singleton.mpr hcap))]
      exact does_skipOnNonzero d.id s e
    · rw [exec_on_device (i := .coni d.id m) rfl he (hroute _ (List.forall_mem_singleton.mpr hcap))]
      exact does_conditionsIn hp
  · rintro _ next rfl hnext _ rfl
    have hroute2 : ∀ op op' : IoOp, d.caps.getLsbD (ioCode op) = true → d.caps.getLsbD (ioCode op') = true →
        s.ioRoute d.id [op, op'] = .device := fun op op' hcap hcap' =>
      hroute _ (List.forall_mem_cons.mpr ⟨hcap, List.forall_mem_singleton.mpr hcap'⟩)
    refine ⟨fun hcap => ?_, fun hcap => ?_, fun hcap hcap' hq => ?_, fun hcap hcap' hq => ?_⟩
    · rw [exec_on_device (i := .datai d.id m) rfl he (hroute _ (List.forall_mem_singleton.mpr hcap))]
      exact does_dataIn hp
    · rw [exec_on_device (i := .datao d.id m) rfl he (hroute _ (List.forall_mem_singleton.mpr hcap))]
      exact does_dataOut hp
    · rw [exec_on_device (i := .blki d.id m) rfl he (hroute2 _ _ hcap hcap')]
      exact does_blockIn hp hnext hq
    · rw [exec_on_device (i := .blko d.id m) rfl he (hroute2 _ _ hcap hcap')]
      exact does_blockOut hp hnext hq rfl

-- The controller as a device (R651, R652)

section
variable (p : InterruptController) (c : Bool) (f : InterruptController → InterruptController)

@[simp] theorem when_turnedOn : (p.when c f).turnedOn = if c then (f p).turnedOn else p.turnedOn := by cases c <;> rfl
@[simp] theorem when_enabled : (p.when c f).enabled = if c then (f p).enabled else p.enabled := by cases c <;> rfl
@[simp] theorem when_held : (p.when c f).held = if c then (f p).held else p.held := by cases c <;> rfl
@[simp] theorem when_request : (p.when c f).request = if c then (f p).request else p.request := by cases c <;> rfl
@[simp] theorem when_current : (p.when c f).current = if c then (f p).current else p.current := by cases c <;> rfl

end

/-- Setting a mask's bits under a condition. -/
theorem or_ite_zero (c : Bool) (x k : BitVec 7) : x ||| (if c then k else 0) = if c then x ||| k else x := by
  cases c
  · exact BitVec.or_zero
  · rfl

/-- Clearing a mask's bits under a condition. -/
theorem and_not_ite_zero (c : Bool) (x k : BitVec 7) : x &&& ~~~(if c then k else 0) = if c then x &&& ~~~k else x := by
  cases c
  · exact (congrArg (x &&& ·) BitVec.not_zero).trans BitVec.and_allOnes
  · rfl

section
variable (p : InterruptController) (e : Half)

theorem command_turnedOn :
    (p.command e).turnedOn = (e.getLsbD 7 || (p.turnedOn && !e.getLsbD 8 && !e.getLsbD 12)) := by
  simp only [InterruptController.command, commandBit, when_turnedOn, ite_self, Nat.reduceSub]
  cases e.getLsbD 7 <;> cases e.getLsbD 8 <;> cases e.getLsbD 12 <;> simp

theorem command_enabled : (p.command e).enabled =
    (((if e.getLsbD 12 then 0 else p.enabled) ||| (if e.getLsbD 10 then e.extractLsb' 0 7 else 0))
      &&& ~~~(if e.getLsbD 9 then e.extractLsb' 0 7 else 0)) := by
  rw [or_ite_zero, and_not_ite_zero]
  simp only [InterruptController.command, commandBit, when_enabled, ite_self, Nat.reduceSub]

theorem command_held : (p.command e).held = if e.getLsbD 12 then 0 else p.held := by
  simp only [InterruptController.command, commandBit, when_held, ite_self, Nat.reduceSub]

theorem command_request : (p.command e).request =
    (((if e.getLsbD 12 then 0 else p.request) &&& ~~~(if e.getLsbD 13 then e.extractLsb' 0 7 else 0))
      ||| (if e.getLsbD 11 then e.extractLsb' 0 7 else 0)) := by
  rw [and_not_ite_zero, or_ite_zero]
  simp only [InterruptController.command, commandBit, when_request, ite_self, Nat.reduceSub]

theorem command_current : (p.command e).current = if e.getLsbD 12 then none else p.current := by
  simp only [InterruptController.command, commandBit, when_current, ite_self, Nat.reduceSub]

end

/-- A field put to the left of another has the weight of the other's width. -/
theorem toNat_append_eq_add {v w : Nat} (x : BitVec v) (y : BitVec w) :
    (x ++ y).toNat = x.toNat * 2 ^ w + y.toNat := by
  rw [BitVec.toNat_append, ← Nat.shiftLeft_add_eq_or_of_lt y.isLt, Nat.shiftLeft_eq]

/-- The fields of the condition word at their places (R652). -/
theorem conditions_eq (p : InterruptController) : p.conditions =
    BitVec.ofNat 36 (p.request.toNat * 2 ^ 18 + p.held.toNat * 2 ^ 8 + p.turnedOn.toNat * 2 ^ 7 + p.enabled.toNat) := by
  have hon : (BitVec.ofBool p.turnedOn).toNat = p.turnedOn.toNat := by cases p.turnedOn <;> rfl
  have hword : p.conditions.toNat =
      p.request.toNat * 2 ^ 18 + p.held.toNat * 2 ^ 8 + p.turnedOn.toNat * 2 ^ 7 + p.enabled.toNat := by
    simp only [InterruptController.conditions, toNat_append_eq_add, hon, BitVec.toNat_ofNat]
    omega
  rw [← hword, BitVec.ofNat_toNat, BitVec.setWidth_eq]

section
variable (s : State) (e : Offset)

theorem does_controllerCono :
    Does (finish (controllerCono s e)) { s with pi := s.pi.command e } [] s.flags s.returnPC :=
  does_finish_ok rfl (effect_normal (effect_refl { s with pi := s.pi.command e }))

theorem does_controllerConi (hp : s.present (s.sec e) = true) :
    Does (finish (controllerConi s e)) s [(s.sec e, s.pi.conditions)] s.flags s.returnPC :=
  does_finish_ok (by simp only [controllerConi, bind, Except.bind, writeMem_ok _ hp]; rfl)
    (effect_normal (effect_poke (effect_refl s) _ _))

theorem does_controllerConsz :
    Does (finish (controllerConsz s e)) s [] s.flags
      (if s.pi.conditions &&& immediate e = 0 then skipPC s else s.returnPC) :=
  does_finish_ok rfl (effect_skipIf_iff beq_iff_eq (effect_refl s))

theorem does_controllerConso :
    Does (finish (controllerConso s e)) s [] s.flags
      (if s.pi.conditions &&& immediate e = 0 then s.returnPC else skipPC s) :=
  does_finish_ok rfl (effect_skipIf_iff_not bne_iff_ne (effect_refl s))

end

/-- Settles O59: `p` is the controller after the command field by field, and `word` its condition word. -/
theorem controllerInstructionsComplete : Obligations.ControllerInstructionsComplete := by
  intro s m e hlegal he
  have hl : s.ioLegal = true := ioLegal_iff.mpr hlegal
  refine ⟨?_, ?_⟩
  · rintro p _ rfl hon henabled hheld hrequest hcurrent
    obtain rfl : p = s.pi.command e := by
      rw [← command_turnedOn] at hon
      rw [← command_enabled] at henabled
      rw [← command_held] at hheld
      rw [← command_request] at hrequest
      rw [← command_current] at hcurrent
      cases p
      simp_all only
    rw [CompletesFrom, exec_on_controller (i := .cono 1 m) rfl he (ioRoute_controller hl)]
    exact does_controllerCono s e
  · rintro word hword
    obtain rfl : word = s.pi.conditions := hword.trans (conditions_eq _).symm
    simp only [Completes]
    refine ⟨fun hp => ?_, ?_, ?_⟩
    · rw [exec_on_controller (i := .coni 1 m) rfl he (ioRoute_controller hl)]
      exact does_controllerConi s e hp
    · rw [exec_on_controller (i := .consz 1 m) rfl he (ioRoute_controller hl)]
      exact does_controllerConsz s e
    · rw [exec_on_controller (i := .conso 1 m) rfl he (ioRoute_controller hl)]
      exact does_controllerConso s e

end Sys2Proof.Machine
end

section
/-!
PROOFS. Byte pointers and the byte instructions (spec/48_byte.md). A byte is read and replaced bit by bit. The three
kinds of pointer are told apart once, so each instruction has one lemma per kind. An adjustment comes to the byte of some
number in its word, which is what increments of an aligned pointer come to and what gives a Global-1 pointer its code.
-/

namespace Sys2Proof.Machine

variable {s t u : State} {m : AddrPart} {e : Offset} {ac : AcNum} {w w2 : Word}

-- The bits of a byte (R552)

theorem getLsbD_byteOf (position size : Nat) (w : Word) {k : Nat} (hk : k < 36) :
    (byteOf position size w).getLsbD k = (decide (k < size) && w.getLsbD (position + k)) := by
  rw [byteOf, BitVec.getLsbD_ofNat, Nat.testBit_mod_two_pow, Nat.testBit_div_two_pow]
  simp only [hk, decide_true, Bool.true_and, Nat.add_comm k position]
  rfl

/-- A number with the field of `size` bits above its low `position` bits replaced. -/
theorem replaceField_eq (position size old v : Nat) :
    old - old / 2 ^ position % 2 ^ size * 2 ^ position + v % 2 ^ size * 2 ^ position =
      2 ^ position * (2 ^ size * (old / 2 ^ position / 2 ^ size) + v % 2 ^ size) + old % 2 ^ position := by
  have hlow := Nat.div_add_mod old (2 ^ position)
  have hfield := Nat.div_add_mod (old / 2 ^ position) (2 ^ size)
  have hold : old = 2 ^ position * (2 ^ size * (old / 2 ^ position / 2 ^ size)) +
      old / 2 ^ position % 2 ^ size * 2 ^ position + old % 2 ^ position := by
    conv_lhs => rw [← hlow, ← hfield]
    ring
  have hsub : old - old / 2 ^ position % 2 ^ size * 2 ^ position =
      2 ^ position * (2 ^ size * (old / 2 ^ position / 2 ^ size)) + old % 2 ^ position := by omega
  rw [hsub]
  ring

theorem getLsbD_depositByte (position size : Nat) (old v : Word) {k : Nat} (hk : k < 36) :
    (depositByte position size old v).getLsbD k =
      if position ≤ k ∧ k < position + size then v.getLsbD (k - position) else old.getLsbD k := by
  have hlow : old.toNat % 2 ^ position < 2 ^ position := Nat.mod_lt _ (Nat.two_pow_pos _)
  have hfield : v.toNat % 2 ^ size < 2 ^ size := Nat.mod_lt _ (Nat.two_pow_pos _)
  rw [depositByte, replaceField_eq, BitVec.getLsbD_ofNat, Nat.testBit_two_pow_mul_add _ hlow,
    Nat.testBit_two_pow_mul_add _ hfield]
  simp only [hk, decide_true, Bool.true_and, Nat.testBit_mod_two_pow, Nat.testBit_div_two_pow, BitVec.testBit_toNat]
  rcases Nat.lt_or_ge k position with hbelow | hge
  · simp [hbelow, Nat.not_le.mpr hbelow]
  · rcases Nat.lt_or_ge (k - position) size with hin | hout
    · rw [if_neg (Nat.not_lt.mpr hge), if_pos hin, if_pos ⟨hge, by omega⟩, decide_eq_true hin, Bool.true_and]
    · rw [if_neg (Nat.not_lt.mpr hge), if_neg (Nat.not_lt.mpr hout), if_neg (by omega),
        show k - position - size + size + position = k by omega]

/-- Settles O54: both functions bit by bit. -/
theorem depositedByteLoadsBack : Obligations.DepositedByteLoadsBack := by
  intro position size old v hfits
  constructor
  · refine BitVec.eq_of_getLsbD_eq fun k hk => ?_
    rw [getLsbD_byteOf position size _ hk, BitVec.getLsbD_ofNat, Nat.testBit_mod_two_pow, BitVec.testBit_toNat]
    rcases Nat.lt_or_ge k size with hin | hout
    · rw [getLsbD_depositByte position size old v (by omega), if_pos ⟨by omega, by omega⟩, Nat.add_sub_cancel_left]
      simp [hk]
    · simp [Nat.not_lt.mpr hout]
  · intro k hk
    rcases Nat.lt_or_ge k 36 with hlt | hge
    · rw [getLsbD_depositByte position size old v hlt, if_neg (by omega)]
    · rw [BitVec.getLsbD_of_ge _ k hge, BitVec.getLsbD_of_ge _ k hge]

-- The kind of a pointer and the Global-1 table (R550)

theorem getMsbD_twelve (w : Word) : w.getMsbD 12 = w.getLsbD 23 := rfl

theorem pointerKind_global1 (h : 36 < pointerCode w) : pointerKind w = .global1 := if_pos h

theorem pointerKind_global2 (h : pointerCode w ≤ 36) (hbit : w.getMsbD 12 = true) : pointerKind w = .global2 :=
  (if_neg (Nat.not_lt.mpr h)).trans (if_pos hbit)

theorem pointerKind_local1 (h : pointerCode w ≤ 36) (hbit : w.getMsbD 12 = false) : pointerKind w = .local1 :=
  (if_neg (Nat.not_lt.mpr h)).trans (if_neg (by rw [← getMsbD_twelve, hbit]; exact Bool.false_ne_true))

theorem pointerSize_le (w : Word) : pointerSize w ≤ 63 := Nat.le_of_lt_succ (w.extractLsb' 24 6).isLt

/-- The table's entries are the runs of R550. -/
theorem global1Entry_eq {code : Nat} (hlo : 36 < code) (hhi : code < 63) :
    global1Entry code = .ok (global1Field code) := by
  interval_cases code <;> rfl

theorem global1Entry_bad : global1Entry 63 = .error .badBytePointer := rfl

/-- The table is searched for the code that has the entry. -/
theorem global1Code_field {code : Nat} (hlo : 36 < code) (hhi : code < 63) :
    global1Code (global1Field code).1 (global1Field code).2 = code := by
  interval_cases code <;> rfl

theorem global1Code_first {code : Nat} (hlo : 36 < code) (hhi : code < 63) :
    global1Code (global1Field code).1 36 = firstCode (global1Field code).1 := by
  interval_cases code <;> rfl

-- Where a pointer points (R551)

/-- The address of a Global-2 pointer before indirection. -/
def State.global2Base (s : State) (w w2 : Word) : VAddr :=
  w2.extractLsb' 0 30
    + (if (AddrPart.ofWord w).index = 0 then 0 else (s.ac (AddrPart.ofWord w).index).extractLsb' 0 30)

theorem global2Base_eq (s : State) (w w2 : Word) : s.global2Base w w2 =
    if (AddrPart.ofWord w).index = 0 then globalAddress w2
    else globalAddress w2 + (s.ac (AddrPart.ofWord w).index).setWidth 30 := by
  unfold State.global2Base globalAddress
  split
  · exact BitVec.add_zero _
  · rw [BitVec.setWidth_eq_extractLsb' (by decide)]

theorem global2Address_direct (hi : (AddrPart.ofWord w).indirect = false) :
    s.global2Address w w2 = .ok (s.global2Base w w2) := by
  rw [State.global2Address, hi, ← global2Base_eq]
  rfl

theorem global2Address_indirect {a : VAddr} {r : Offset × Word} (hi : (AddrPart.ofWord w).indirect = true)
    (ha : a = s.global2Base w w2) (hp : s.present a = true)
    (hr : s.resolve (AddrPart.ofWord (s.peek a)) (s.peek a) = .ok r) :
    s.global2Address w w2 = .ok (sectionOf a ++ r.1) := by
  rw [State.global2Address, hi, ← global2Base_eq, ← ha]
  simp only [if_true, bind, Except.bind, readMem_ok hp, hr]
  rfl

/-- Settles O50: the kinds one by one. -/
theorem bytePointerResolves : Obligations.BytePointerResolves := by
  rintro s e w code size hp hw rfl rfl
  have hread : s.readMem (s.sec e) = .ok w := hw ▸ readMem_ok hp
  refine ⟨fun hbad => ?_, fun hlo hhi => ?_, fun hle hbit r hr => ?_, fun hle hbit hp2 a ha => ⟨fun hi => ?_,
    fun hi hpa r hr => ?_⟩⟩
  · have hcode : pointerCode w = 63 := hbad
    simp only [State.getPSA, bind, Except.bind, hread, pointerKind_global1 (w := w) (by omega), hcode, global1Entry_bad]
  · have hentry : global1Entry (pointerCode w) = .ok (global1Field (pointerCode w)) := global1Entry_eq hlo hhi
    simp only [State.getPSA, bind, Except.bind, hread, pointerKind_global1 hlo, hentry]
    rfl
  · simp only [State.getPSA, bind, Except.bind, hread, pointerKind_local1 hle hbit, hr]
    rfl
  · simp only [State.getPSA, bind, Except.bind, hread, pointerKind_global2 hle hbit, readMem_ok hp2,
      global2Address_direct hi, ha]
    rfl
  · simp only [State.getPSA, bind, Except.bind, hread, pointerKind_global2 hle hbit, readMem_ok hp2,
      global2Address_indirect hi ha hpa hr]
    rfl

-- Loading and depositing (R554 to R557)

theorem effect_writeMem {ws : List (VAddr × Word)} {f : BitVec 13} {p : VAddr} {a : VAddr} {v : Word}
    (h : Effect s t ws f p) (hw : t.writeMem a v = .ok u) : Effect s u (ws ++ [(a, v)]) f p := by
  obtain ⟨_, rfl⟩ := writeMem_eq_ok hw
  exact effect_poke h a v

/-- Whatever the pointer, incrementing it stores words and changes nothing else. -/
theorem incPointer_effect (h : s.incPointer e = .ok u) : ∃ ws, Effect s u ws s.flags s.pc := by
  unfold State.incPointer at h
  obtain ⟨w, _, h⟩ := finish_bind (t := u) (congrArg finish h)
  cases hk : pointerKind w with
  | local1 =>
    simp only [hk] at h
    split at h <;> exact ⟨_, effect_writeMem (effect_refl s) (finish_eq_next h)⟩
  | global1 =>
    simp only [hk] at h
    obtain ⟨x, _, h⟩ := finish_bind h
    exact ⟨_, effect_writeMem (effect_refl s) (finish_eq_next h)⟩
  | global2 =>
    simp only [hk] at h
    split at h
    · exact ⟨_, effect_writeMem (effect_refl s) (finish_eq_next h)⟩
    · obtain ⟨w2, _, h⟩ := finish_bind h
      obtain ⟨v, hv, h⟩ := finish_bind h
      exact ⟨_, effect_writeMem (effect_writeMem (effect_refl s) hv) (finish_eq_next h)⟩

/-- The first part of ILDB and IDPB (R554): nothing when FPD is 1, else the increment. -/
theorem firstPart_eq_ok (h : (s.flag .fpd = true ∧ u = s) ∨ (s.flag .fpd = false ∧ s.incPointer e = .ok u)) :
    s.firstPart e = .ok u := by
  rcases h with ⟨hfpd, rfl⟩ | ⟨hfpd, hinc⟩
  · rw [State.firstPart, hfpd]
    rfl
  · rw [State.firstPart, hfpd]
    exact hinc

theorem firstPart_effect (h : s.firstPart e = .ok u) : ∃ ws, Effect s u ws s.flags s.pc := by
  unfold State.firstPart at h
  split at h
  · cases h
    exact ⟨_, effect_refl s⟩
  · exact incPointer_effect h

section
variable {position size : Nat} {a : VAddr} (hpsa : u.getPSA e = .ok (position, size, a)) (ha : u.present a = true)
include hpsa ha

theorem loadByte_eq (ac : AcNum) :
    u.loadByte ac e = .ok (u.setAc ac (byteOf position size (u.peek a))) := by
  simp only [State.loadByte, bind, Except.bind, hpsa, readMem_ok ha]
  rfl

theorem depositAc_eq (ac : AcNum) :
    u.depositAc ac e = .ok (u.poke a (depositByte position size (u.peek a) (u.ac ac))) := by
  simp only [State.depositAc, State.putByte, bind, Except.bind, hpsa, readMem_ok ha, writeMem_ok _ ha]

end

section
variable {v : State} {ws : List (VAddr × Word)} {p : VAddr}

theorem does_execLdb (he : s.effective m = .ok e) (hload : s.loadByte ac e = .ok v) (hv : Effect s v ws s.flags s.pc) :
    Does (execLdb ac m s) s ws s.flags s.returnPC :=
  does_finish_ok (by simp only [bind, Except.bind, he, hload]; rfl) (effect_normal hv)

theorem does_execDpb (he : s.effective m = .ok e) (hdeposit : s.depositAc ac e = .ok v)
    (hv : Effect s v ws s.flags s.pc) : Does (execDpb ac m s) s ws s.flags s.returnPC :=
  does_finish_ok (by simp only [bind, Except.bind, he, hdeposit]; rfl) (effect_normal hv)

/-- The last part of ILDB and IDPB: FPD is cleared in the state after the increment, which has the FLAGS and the
`nextPC` of the start. -/
theorem effect_lastPart (hu : s.firstPart e = .ok u) (hv : Effect u v ws u.flags u.pc) :
    Effect u (v.clearFlags Flag.fpd.mask).normal ws (s.flags &&& ~~~flagMask [.fpd]) s.returnPC := by
  obtain ⟨_, hfirst⟩ := firstPart_effect hu
  rw [← returnPC_eq hfirst, ← hfirst.flags]
  exact effect_normal (effect_clearFlags hv _)

theorem does_execIldb (he : s.effective m = .ok e) (hu : s.firstPart e = .ok u) (hload : u.loadByte ac e = .ok v)
    (hv : Effect u v ws u.flags u.pc) :
    Does (execIldb ac m s) u ws (s.flags &&& ~~~flagMask [.fpd]) s.returnPC :=
  does_finish_ok (by simp only [bind, Except.bind, he, hu, hload]; rfl) (effect_lastPart hu hv)

theorem does_execIdpb (he : s.effective m = .ok e) (hu : s.firstPart e = .ok u)
    (hdeposit : u.depositAc ac e = .ok v) (hv : Effect u v ws u.flags u.pc) :
    Does (execIdpb ac m s) u ws (s.flags &&& ~~~flagMask [.fpd]) s.returnPC :=
  does_finish_ok (by simp only [bind, Except.bind, he, hu, hdeposit]; rfl) (effect_lastPart hu hv)

end

/-- Settles O51: `loaded` and `deposited` are the byte functions bit by bit, and each instruction is the load or the
deposit, after the first part and before the last for ILDB and IDPB. -/
theorem byteLoadsAndDepositsComplete : Obligations.ByteLoadsAndDepositsComplete := by
  refine ⟨fun ac m => ?_, ?_⟩
  · simp only [opcodes_cons, opcodes_nil, and_true]
    and_intros <;> exact opField_of_basic rfl
  intro s ac m e he u position size a loaded deposited hpsa ha hloaded hdeposited
  obtain rfl : loaded = byteOf position size (u.peek a) :=
    BitVec.eq_of_getLsbD_eq fun k hk => by rw [hloaded k hk, getLsbD_byteOf _ _ _ hk]
  obtain rfl : deposited = depositByte position size (u.peek a) (u.ac ac) :=
    BitVec.eq_of_getLsbD_eq fun k hk => by rw [hdeposited k hk, getLsbD_depositByte _ _ _ _ hk]
  have hload := loadByte_eq hpsa ha ac
  have hdeposit := depositAc_eq hpsa ha ac
  have hafterLoad := effect_setAc (effect_refl u) ac (byteOf position size (u.peek a))
  have hafterDeposit := effect_poke (effect_refl u) a (depositByte position size (u.peek a) (u.ac ac))
  constructor
  · rintro rfl
    exact ⟨does_execLdb he hload hafterLoad, does_execDpb he hdeposit hafterDeposit⟩
  · intro hfirst
    have hu : s.firstPart e = .ok u := firstPart_eq_ok hfirst
    exact ⟨does_execIldb he hu hload hafterLoad, does_execIdpb he hu hdeposit hafterDeposit⟩

-- Incrementing (R553, R558)

/-- The left half of a pointer's first word: the new position and the fields above Y. -/
theorem lh_withPosition (w : Word) (p : Nat) : lh (withPosition w p) = BitVec.ofNat 6 p ++ w.extractLsb' 18 12 := by
  refine BitVec.eq_of_getLsbD_eq fun k hk => ?_
  rw [lh, withPosition, BitVec.getLsbD_extractLsb', BitVec.getLsbD_append, BitVec.getLsbD_append]
  rcases Nat.lt_or_ge k 12 with hlt | hge
  · simp [hlt, hk, show 18 + k < 30 by omega]
  · simp [Nat.not_lt.mpr hge, hk, show ¬ 18 + k < 30 by omega, show 18 + k - 30 = k - 12 by omega]

/-- A Local-1 pointer with another position and another Y: the fields between them are kept. -/
theorem withRightHalf_withPosition (w : Word) (p : Nat) (y : Half) :
    withRightHalf (withPosition w p) y = BitVec.ofNat 6 p ++ w.extractLsb' 18 12 ++ y := by
  rw [withRightHalf, lh_withPosition]
  rfl

/-- A Global-1 pointer with another code and another address. -/
theorem withPosition_withGlobalAddress (w : Word) (a : VAddr) (p : Nat) :
    withPosition (withGlobalAddress w a) p = BitVec.ofNat 6 p ++ a :=
  congrArg (BitVec.ofNat 6 p ++ ·) BitVec.extractLsb'_append_eq_right

/-- The first position of a word, 36 less the size, in six bits (R553). -/
theorem ofNat_first_position {size : Nat} (h : size ≤ 63) :
    BitVec.ofNat 6 ((100 - size) % 64) = BitVec.ofInt 6 (36 - (size : Int)) := by
  apply BitVec.eq_of_toNat_eq
  rw [BitVec.toNat_ofNat, BitVec.toNat_ofInt]
  omega

section
variable (hread : s.readMem (s.sec e) = .ok w)
include hread

theorem incPointer_bad (hcode : pointerCode w = 63) : s.incPointer e = .error .badBytePointer := by
  simp only [State.incPointer, bind, Except.bind, hread, pointerKind_global1 (w := w) (by omega), hcode,
    global1Entry_bad]

theorem incPointer_global1 (hlo : 36 < pointerCode w) (hhi : pointerCode w < 63) :
    s.incPointer e = s.writeMem (s.sec e)
      (nextGlobal1 w (global1Field (pointerCode w)).1 (global1Field (pointerCode w)).2) := by
  simp only [State.incPointer, bind, Except.bind, hread, pointerKind_global1 hlo, global1Entry_eq hlo hhi]

/-- A Local-1 and a Global-2 pointer with another byte in its word are advanced alike. -/
theorem incPointer_within (hle : pointerCode w ≤ 36) (hfits : pointerSize w ≤ pointerCode w) :
    s.incPointer e = s.writeMem (s.sec e) (withPosition w (pointerCode w - pointerSize w)) := by
  cases hbit : w.getMsbD 12 with
  | false => simp only [State.incPointer, bind, Except.bind, hread, pointerKind_local1 hle hbit, if_pos hfits]
  | true => simp only [State.incPointer, bind, Except.bind, hread, pointerKind_global2 hle hbit, if_pos hfits]

theorem incPointer_local1_carry (hle : pointerCode w ≤ 36) (hbit : w.getMsbD 12 = false)
    (hover : pointerCode w < pointerSize w) :
    s.incPointer e = s.writeMem (s.sec e)
      (BitVec.ofInt 6 (36 - (pointerSize w : Int)) ++ w.extractLsb' 18 12 ++ (w.extractLsb' 0 18 + 1)) := by
  simp only [State.incPointer, bind, Except.bind, hread, pointerKind_local1 hle hbit, if_neg (Nat.not_le.mpr hover)]
  rw [withRightHalf_withPosition, ofNat_first_position (pointerSize_le w)]
  rfl

theorem incPointer_global2_carry (hle : pointerCode w ≤ 36) (hbit : w.getMsbD 12 = true)
    (hover : pointerCode w < pointerSize w) (hp : s.present (s.sec e) = true)
    (hp2 : s.present (s.sec (e + 1)) = true) (hw2 : w2 = s.peek (s.sec (e + 1))) :
    s.incPointer e = .ok ((s.poke (s.sec e) (BitVec.ofInt 6 (36 - (pointerSize w : Int)) ++ w.extractLsb' 0 30)).poke
      (s.sec (e + 1)) (w2.extractLsb' 30 6 ++ (w2.extractLsb' 0 30 + 1))) := by
  simp only [State.incPointer, bind, Except.bind, hread, pointerKind_global2 hle hbit, if_neg (Nat.not_le.mpr hover),
    readMem_ok hp2, writeMem_ok _ hp, State.poke_sec]
  rw [writeMem_ok _ (by simpa using hp2), withPosition, ofNat_first_position (pointerSize_le w), hw2]
  rfl

end

/-- The next code, or the second one of the size's run and the next address (R553). -/
theorem nextGlobal1_eq (hlo : 36 < pointerCode w) (hhi : pointerCode w < 63) :
    nextGlobal1 w (global1Field (pointerCode w)).1 (global1Field (pointerCode w)).2 =
      if (global1Field (pointerCode w)).1 ≤ (global1Field (pointerCode w)).2 then
        BitVec.ofNat 6 (pointerCode w + 1) ++ w.extractLsb' 0 30
      else BitVec.ofNat 6 (firstCode (global1Field (pointerCode w)).1 + 1) ++ (w.extractLsb' 0 30 + 1) := by
  rw [nextGlobal1, withPosition_withGlobalAddress, global1Code_first hlo hhi]
  rfl

theorem execIbp_eq (he : s.effective m = .ok e) (h : s.incPointer e = .ok u) :
    execIbp m s = .next { u with pc := s.returnPC } := by
  obtain ⟨_, hu⟩ := incPointer_effect h
  simp only [execIbp, bind, Except.bind, he, h, ← returnPC_eq hu]
  rfl

theorem does_execIbp {ws : List (VAddr × Word)} (he : s.effective m = .ok e) (h : s.incPointer e = .ok u)
    (hu : Effect s u ws s.flags s.pc) : Does (execIbp m s) s ws s.flags s.returnPC :=
  ⟨_, execIbp_eq he h, effect_withPc hu _⟩

/-- IBP where the increment stores one word. -/
theorem does_execIbp_one {v : Word} (he : s.effective m = .ok e) (hp : s.present (s.sec e) = true)
    (h : s.incPointer e = s.writeMem (s.sec e) v) : Does (execIbp m s) s [(s.sec e, v)] s.flags s.returnPC :=
  does_execIbp he (h.trans (writeMem_ok v hp)) (effect_poke (effect_refl s) _ _)

/-- Settles O52: what the increment of each kind stores. -/
theorem incrementBytePointerCompletes : Obligations.IncrementBytePointerCompletes := by
  refine ⟨fun m => ?_, ?_⟩
  · rw [heads_cons]
    exact ⟨headField_of_basic rfl, heads_nil⟩
  rintro s m e w code size he hp hw rfl rfl
  have hread : s.readMem (s.sec e) = .ok w := hw ▸ readMem_ok hp
  refine ⟨fun u => execIbp_eq he, fun hcode => ?_, fun hlo hhi hfits => ?_, fun hlo hhi hover => ?_,
    fun hle hfits => ?_, fun hle hover hbit => ?_, fun hle hover hbit hp2 w2 hw2 => ?_⟩
  · change execIbp m s = _
    simp only [execIbp, bind, Except.bind, he, incPointer_bad hread hcode]
    rfl
  · exact does_execIbp_one he hp
      ((incPointer_global1 hread hlo hhi).trans (by rw [nextGlobal1_eq hlo hhi]; exact congrArg _ (if_pos hfits)))
  · exact does_execIbp_one he hp
      ((incPointer_global1 hread hlo hhi).trans
        (by rw [nextGlobal1_eq hlo hhi]; exact congrArg _ (if_neg (Nat.not_le.mpr hover))))
  · exact does_execIbp_one he hp (incPointer_within hread hle hfits)
  · exact does_execIbp_one he hp (incPointer_local1_carry hread hle hbit hover)
  · exact does_execIbp he (incPointer_global2_carry hread hle hbit hover hp hp2 hw2)
      (effect_poke (effect_poke (effect_refl s) _ _) _ _)

-- The arithmetic of an adjustment (R559)

section
variable {position size : Nat}

/-- The bytes of a word and the bits to the left of the first of them fit in the word. -/
theorem bytesPerWord_fits (hpos : position ≤ 36) :
    bytesPerWord position size * size + (36 - position) % size ≤ 36 := by
  have hleft := Nat.div_add_mod' (36 - position) size
  have hright := Nat.div_mul_le_self position size
  rw [bytesPerWord, Nat.add_mul]
  omega

/-- The adjustment comes to the byte of number `k`, from 1, in a word `q` words further on. -/
theorem adjustPointer_eq {count n q : Int} (hpos : position ≤ 36) (hb : bytesPerWord position size ≠ 0)
    (hn : n = count + ((36 - position) / size : Nat)) (hq : q = (n - 1) / bytesPerWord position size) :
    ∃ k, 1 ≤ k ∧ k ≤ bytesPerWord position size ∧ k * size + (36 - position) % size ≤ 36 ∧
      n - q * bytesPerWord position size = k ∧
      adjustPointer position size count = (36 - k * size - (36 - position) % size, q) := by
  have hbytes : (0 : Int) < bytesPerWord position size := by omega
  have hmod := Int.emod_add_mul_ediv (n - 1) (bytesPerWord position size)
  have hge := Int.emod_nonneg (n - 1) hbytes.ne'
  have hlt := Int.emod_lt_of_pos (n - 1) hbytes
  obtain ⟨r, hr⟩ := Int.eq_ofNat_of_zero_le hge
  rw [hr] at hmod hlt
  have hk : n - q * bytesPerWord position size = (r + 1 : Nat) := by
    rw [hq, mul_comm]
    push_cast
    omega
  have hle : r + 1 ≤ bytesPerWord position size := by omega
  have hfits : (r + 1) * size + (36 - position) % size ≤ 36 :=
    (Nat.add_le_add_right (Nat.mul_le_mul_right size hle) _).trans (bytesPerWord_fits hpos)
  refine ⟨r + 1, by omega, hle, hfits, hk, ?_⟩
  rw [adjustPointer]
  simp only [← hn, ← hq, hk]
  refine Prod.ext ?_ rfl
  generalize (36 - position) % size = rest at *
  dsimp only
  rw [← Int.natCast_mul]
  generalize (r + 1) * size = taken at *
  omega

end

-- Increments of an aligned pointer (R561)

section
variable {size b : Nat} (hsize : 1 ≤ size) (hb : b = 36 / size)
include hsize hb

/-- An aligned pointer to the `j`-th of the `b` bytes of a word, after `N` increments. -/
theorem incremented_aligned {j : Nat} (hj : 1 ≤ j) (hle : j ≤ b) (N : Nat) (d : Int) :
    incremented size N (36 - j * size, d) =
      (36 - ((j + N - 1) % b + 1) * size, d + ((j + N - 1) / b : Nat)) := by
  induction N generalizing j d with
  | zero =>
    have hlt : j - 1 < b := by omega
    simp only [Nat.mod_eq_of_lt hlt, Nat.div_eq_of_lt hlt, Nat.sub_add_cancel hj, Int.natCast_zero,
      add_zero, incremented]
  | succ N ih =>
    rw [incremented]
    rcases Nat.lt_or_ge j b with hlt | hge
    · have hnext : (j + 1) * size ≤ 36 := (Nat.le_div_iff_mul_le hsize).mp (by omega)
      rw [Nat.add_mul, Nat.one_mul] at hnext
      have hsame : 36 - j * size - size = 36 - (j + 1) * size := by rw [Nat.add_mul, Nat.one_mul, Nat.sub_sub]
      rw [if_pos (show size ≤ 36 - j * size by omega), hsame, ih (by omega) hlt, Nat.add_right_comm j 1 N,
        Nat.add_assoc j N 1]
    · obtain rfl : j = b := by omega
      have hnone : 36 < (j + 1) * size := (Nat.div_lt_iff_lt_mul hsize).mp (by omega)
      rw [Nat.add_mul, Nat.one_mul] at hnone
      have hfirst := ih (j := 1) le_rfl hj (d + 1)
      rw [Nat.one_mul, Nat.add_sub_cancel_left] at hfirst
      rw [if_neg (show ¬ size ≤ 36 - j * size by omega), hfirst, ← Nat.add_assoc, Nat.add_sub_cancel,
        Nat.add_mod_left, Nat.add_div_left _ (by omega)]
      push_cast
      rw [add_assoc, add_comm 1]

/-- The same from before the first byte of a word, where one increment is enough to come to a byte. -/
theorem incremented_from_start {j N : Nat} (hle : j ≤ b) (hb0 : 1 ≤ b) (hN : 1 ≤ N) :
    incremented size N (36 - j * size, 0) =
      (36 - ((j + N - 1) % b + 1) * size, (((j + N - 1) / b : Nat) : Int)) := by
  rcases Nat.eq_zero_or_pos j with rfl | hj
  · obtain ⟨N, rfl⟩ := Nat.exists_eq_add_of_le' hN
    have hfits : size ≤ 36 := by
      by_contra hover
      rw [Nat.div_eq_of_lt (by omega)] at hb
      omega
    have hfirst := incremented_aligned hsize hb le_rfl hb0 N 0
    rw [Nat.one_mul, Nat.add_sub_cancel_left] at hfirst
    rw [Nat.zero_mul, Nat.sub_zero, Nat.zero_add, Nat.add_sub_cancel, incremented, if_pos hfits, hfirst, zero_add]
  · rw [incremented_aligned hsize hb hj hle, zero_add]

end

/-- An adjustment of a Global-1 pointer stays in the run of its size: the `k`-th byte of a word has the `k`-th code
after the first. -/
theorem firstCode_add_field {code : Nat} (hlo : 36 < code) (hhi : code < 63) {k : Nat} (hk : 1 ≤ k)
    (hle : k ≤ bytesPerWord (global1Field code).2 (global1Field code).1) :
    firstCode (global1Field code).1 + k < 63 ∧
      global1Field (firstCode (global1Field code).1 + k) = ((global1Field code).1,
        36 - k * (global1Field code).1 - (36 - (global1Field code).2) % (global1Field code).1) := by
  have hmost : bytesPerWord (global1Field code).2 (global1Field code).1 < 7 := by interval_cases code <;> decide
  have hlt : k < 7 := by omega
  clear hmost
  revert hle
  interval_cases code <;> interval_cases k <;> decide

/-- The entries of the Global-1 table: a size, a position inside a word, and some bytes to a word. -/
theorem global1Field_bounds {code : Nat} (hlo : 36 < code) (hhi : code < 63) :
    (global1Field code).1 ≠ 0 ∧ (global1Field code).2 ≤ 36 ∧
      bytesPerWord (global1Field code).2 (global1Field code).1 ≠ 0 := by
  interval_cases code <;> decide

theorem firstCode_gt (size : Nat) : 36 < firstCode size := by
  unfold firstCode
  split_ifs <;> decide

/-- Settles O55: an adjustment and increments come to the same byte, and the byte of a Global-1 pointer has a code. -/
theorem adjustEqualsIncrements : Obligations.AdjustEqualsIncrements := by
  refine ⟨fun size j N hsize hle hj hN => ?_, fun code count hlo hhi => ?_⟩
  · have hback : 36 - (36 - j * size) = j * size := by omega
    have hbehind : (36 - (36 - j * size)) / size = j := by rw [hback, Nat.mul_div_cancel j hsize]
    have hrest : (36 - (36 - j * size)) % size = 0 := by rw [hback, Nat.mul_mod_left]
    have hbefore : j ≤ 36 / size := (Nat.le_div_iff_mul_le hsize).mpr hj
    have hahead : (36 - j * size) / size = 36 / size - j := by
      rw [Nat.mul_comm, Nat.sub_mul_div_of_le _ _ _ (by rwa [Nat.mul_comm])]
    have hbytes : bytesPerWord (36 - j * size) size = 36 / size := by
      rw [bytesPerWord, hbehind, hahead, Nat.add_sub_cancel' hbefore]
    have hb : 1 ≤ 36 / size := (Nat.le_div_iff_mul_le hsize).mpr (by omega)
    obtain ⟨k, _, _, _, hk, hadjust⟩ := adjustPointer_eq (position := 36 - j * size) (size := size) (count := N)
      (by omega) (by omega) rfl rfl
    rw [hbytes, hbehind] at hk
    rw [hbytes, hbehind, hrest, Nat.sub_zero] at hadjust
    rw [hadjust, incremented_from_start hsize rfl hbefore hb hN]
    generalize 36 / size = b at *
    have hlast : (N : Int) + j - 1 = (j + N - 1 : Nat) := by omega
    have hmod := Nat.mod_add_div' (j + N - 1) b
    rw [hlast, ← Int.natCast_ediv, ← Int.natCast_mul] at hk
    obtain rfl : k = (j + N - 1) % b + 1 := by omega
    rw [hlast, Int.natCast_ediv]
  · obtain ⟨hsize, hpos, hb⟩ := global1Field_bounds hlo hhi
    obtain ⟨k, hk, hle, _, _, hadjust⟩ := adjustPointer_eq (count := count) hpos hb rfl rfl
    obtain ⟨hlt, hfield⟩ := firstCode_add_field hlo hhi hk hle
    have hgt : 36 < firstCode (global1Field code).1 + k := Nat.lt_add_right k (firstCode_gt _)
    exact ⟨_, hgt, hlt, by rw [hfield], by rw [hfield, hadjust], global1Code_field hgt hlt⟩

-- Adjusting (R560)

/-- What a pointer put into the accumulators writes: a second word for Global-2 only. -/
def pointerWrites (ac : AcNum) (kind : PointerKind) (w w2 : Word) : List (VAddr × Word) :=
  match kind with
  | .global2 => [(acAddr ac, w), (acAddr (ac + 1), w2)]
  | _ => [(acAddr ac, w)]

theorem effect_setPointer (s : State) (ac : AcNum) (kind : PointerKind) (w w2 : Word) :
    Effect s (s.setPointer ac kind w w2) (pointerWrites ac kind w w2) s.flags s.pc := by
  cases kind with
  | global2 => exact effect_setAcPair (effect_refl s) ac (w, w2)
  | local1 => exact effect_setAc (effect_refl s) ac w
  | global1 => exact effect_setAc (effect_refl s) ac w

section
variable {size position : Nat} (he : s.effective m = .ok e) (hread : s.readMem (s.sec e) = .ok w)
  (hfields : adjustFields w = .ok (size, position)) (hsecond : s.secondPointerWord e w = .ok w2)
include he hread hfields hsecond

/-- A pointer of size 0 is copied. -/
theorem does_execAdjbp_copy (hsize : size = 0) :
    Does (execAdjbp ac m s) s (pointerWrites ac (pointerKind w) w w2) s.flags s.returnPC :=
  does_finish_ok (by simp only [bind, Except.bind, he, hread, hfields, hsecond, if_pos hsize]; rfl)
    (effect_normal (effect_setPointer s ac _ w w2))

/-- No byte fits in a word: NDV, TR1 and AOV, and nothing is written. -/
theorem does_execAdjbp_none (hsize : size ≠ 0) (hb : bytesPerWord position size = 0) :
    Does (execAdjbp ac m s) s [] (s.flags ||| noDivideFlags) s.returnPC :=
  does_finish_ok (by simp only [bind, Except.bind, he, hread, hfields, hsecond, if_neg hsize, if_pos hb]; rfl)
    (effect_noDivideNext s)

/-- The adjusted pointer. -/
theorem does_execAdjbp (hsize : size ≠ 0) (hb : bytesPerWord position size ≠ 0) {x : Nat × Int}
    (hadjust : adjustPointer position size (s.ac ac).toInt = x) :
    Does (execAdjbp ac m s) s
      (pointerWrites ac (pointerKind w) (adjustedWords w w2 size x).1 (adjustedWords w w2 size x).2) s.flags
      s.returnPC :=
  does_finish_ok
    (by simp only [bind, Except.bind, he, hread, hfields, hsecond, if_neg hsize, if_neg hb, hadjust]; rfl)
    (effect_normal (effect_setPointer s ac _ _ _))

end

theorem execAdjbp_bad (he : s.effective m = .ok e) (hread : s.readMem (s.sec e) = .ok w)
    (hcode : pointerCode w = 63) : execAdjbp ac m s = .fault .badBytePointer := by
  simp only [execAdjbp, adjustFields, bind, Except.bind, he, hread, pointerKind_global1 (w := w) (by omega), hcode,
    global1Entry_bad]
  rfl

-- The three kinds

theorem adjustFields_global1 (hlo : 36 < pointerCode w) (hhi : pointerCode w < 63) :
    adjustFields w = .ok ((global1Field (pointerCode w)).1, (global1Field (pointerCode w)).2) := by
  simp only [adjustFields, pointerKind_global1 hlo, global1Entry_eq hlo hhi]

theorem adjustFields_own (hle : pointerCode w ≤ 36) : adjustFields w = .ok (pointerSize w, pointerCode w) := by
  cases hbit : w.getMsbD 12 with
  | false => simp only [adjustFields, pointerKind_local1 hle hbit]
  | true => simp only [adjustFields, pointerKind_global2 hle hbit]

theorem secondPointerWord_none (hk : pointerKind w ≠ .global2) : s.secondPointerWord e w = .ok 0 := by
  unfold State.secondPointerWord
  cases hkind : pointerKind w with
  | global2 => exact absurd hkind hk
  | local1 => rfl
  | global1 => rfl

theorem secondPointerWord_global2 (hk : pointerKind w = .global2) (hp : s.present (s.sec (e + 1)) = true) :
    s.secondPointerWord e w = .ok (s.peek (s.sec (e + 1))) := by
  simp only [State.secondPointerWord, hk, readMem_ok hp]

theorem adjustedWords_global1 {size : Nat} {x : Nat × Int} (hk : pointerKind w = .global1) :
    adjustedWords w w2 size x =
      (BitVec.ofNat 6 (global1Code size x.1) ++ (w.extractLsb' 0 30 + BitVec.ofInt 30 x.2), w2) := by
  simp only [adjustedWords, hk, withPosition_withGlobalAddress]
  rfl

theorem adjustedWords_local1 {size : Nat} {x : Nat × Int} (hk : pointerKind w = .local1) :
    adjustedWords w w2 size x =
      (BitVec.ofNat 6 x.1 ++ w.extractLsb' 18 12 ++ (w.extractLsb' 0 18 + BitVec.ofInt 18 x.2), w2) := by
  simp only [adjustedWords, hk, withRightHalf_withPosition]
  rfl

theorem adjustedWords_global2 {size : Nat} {x : Nat × Int} (hk : pointerKind w = .global2) :
    adjustedWords w w2 size x = (BitVec.ofNat 6 x.1 ++ w.extractLsb' 0 30,
      w2.extractLsb' 30 6 ++ (w2.extractLsb' 0 30 + BitVec.ofInt 30 x.2)) := by
  simp only [adjustedWords, hk]
  rfl

/-- The position that R559's formula gives is one inside the word. -/
theorem adjustPointer_of_formula {position size : Nat} {count bpw n q p : Int} (hpos : position ≤ 36)
    (hbpw : bpw = ((36 - position) / size + position / size : Nat)) (hb : bpw ≠ 0)
    (hn : n = count + ((36 - position) / size : Nat)) (hq : q = (n - 1) / bpw)
    (hp : p = 36 - (n - q * bpw) * size - ((36 - position) % size : Nat)) :
    ∃ x : Nat, p = x ∧ adjustPointer position size count = (x, q) := by
  subst hbpw
  obtain ⟨k, _, _, hfits, hk, hadjust⟩ := adjustPointer_eq hpos (Int.natCast_ne_zero.mp hb) hn hq
  refine ⟨_, ?_, hadjust⟩
  rw [bytesPerWord] at hk
  rw [hp, hk, ← Int.natCast_mul]
  omega

section
variable {position size : Nat} (he : s.effective m = .ok e) (hread : s.readMem (s.sec e) = .ok w)
include he hread

/-- ADJBP with a Global-1 pointer: the code of the new entry. -/
theorem does_execAdjbp_global1 (hlo : 36 < pointerCode w) (hhi : pointerCode w < 63) {x : Nat} {q : Int}
    (hadjust : adjustPointer (global1Field (pointerCode w)).2 (global1Field (pointerCode w)).1 (s.ac ac).toInt = (x, q))
    {c : Nat} (hc : 36 < c) (hc' : c < 63) (hfield : global1Field c = ((global1Field (pointerCode w)).1, x)) :
    Does (execAdjbp ac m s) s
      [(acAddr ac, BitVec.ofNat 6 c ++ (w.extractLsb' 0 30 + BitVec.ofInt 30 q))] s.flags s.returnPC := by
  have hk := pointerKind_global1 hlo
  have hsecond : s.secondPointerWord e w = .ok 0 := secondPointerWord_none (by rw [hk]; nofun)
  obtain ⟨hsize, _, hb⟩ := global1Field_bounds hlo hhi
  have hcode : global1Code (global1Field (pointerCode w)).1 x = c := by
    rw [← global1Code_field hc hc', hfield]
  have hdoes := does_execAdjbp he hread (adjustFields_global1 hlo hhi) hsecond hsize hb hadjust
  rwa [adjustedWords_global1 hk, hk, hcode] at hdoes

/-- ADJBP with a Local-1 pointer. -/
theorem does_execAdjbp_local1 (hle : pointerCode w ≤ 36) (hbit : w.getMsbD 12 = false) (hsize : pointerSize w ≠ 0)
    (hb : bytesPerWord (pointerCode w) (pointerSize w) ≠ 0) {x : Nat} {q : Int}
    (hadjust : adjustPointer (pointerCode w) (pointerSize w) (s.ac ac).toInt = (x, q)) :
    Does (execAdjbp ac m s) s
      [(acAddr ac, BitVec.ofInt 6 x ++ w.extractLsb' 18 12 ++ (w.extractLsb' 0 18 + BitVec.ofInt 18 q))] s.flags
      s.returnPC := by
  have hk := pointerKind_local1 hle hbit
  have hsecond : s.secondPointerWord e w = .ok 0 := secondPointerWord_none (by rw [hk]; nofun)
  have hdoes := does_execAdjbp he hread (adjustFields_own hle) hsecond hsize hb hadjust
  rwa [adjustedWords_local1 hk, hk, ← BitVec.ofInt_natCast] at hdoes

/-- ADJBP with a Global-2 pointer: its second word goes to the next accumulator. -/
theorem does_execAdjbp_global2 (hle : pointerCode w ≤ 36) (hbit : w.getMsbD 12 = true)
    (hsecond : s.secondPointerWord e w = .ok w2) (hsize : pointerSize w ≠ 0)
    (hb : bytesPerWord (pointerCode w) (pointerSize w) ≠ 0) {x : Nat} {q : Int}
    (hadjust : adjustPointer (pointerCode w) (pointerSize w) (s.ac ac).toInt = (x, q)) :
    Does (execAdjbp ac m s) s
      [(acAddr ac, BitVec.ofInt 6 x ++ w.extractLsb' 0 30),
        (acAddr (ac + 1), w2.extractLsb' 30 6 ++ (w2.extractLsb' 0 30 + BitVec.ofInt 30 q))] s.flags s.returnPC := by
  have hk := pointerKind_global2 hle hbit
  have hdoes := does_execAdjbp he hread (adjustFields_own hle) hsecond hsize hb hadjust
  rwa [adjustedWords_global2 hk, hk, ← BitVec.ofInt_natCast] at hdoes

end

/-- Settles O53: the three kinds differ in where size and position stand and in the words that are written. -/
theorem adjustBytePointerCompletes : Obligations.AdjustBytePointerCompletes := by
  refine ⟨fun ac m => ?_, ?_⟩
  · rw [opcodes_cons]
    exact ⟨opField_of_basic rfl, opcodes_nil⟩
  rintro s ac m e w w2 code size position he hp hw rfl
  have hread : s.readMem (s.sec e) = .ok w := hw ▸ readMem_ok hp
  refine ⟨execAdjbp_bad he hread, fun hhi hglobal hown hsecond => ?_⟩
  rcases Nat.lt_or_ge 36 (pointerCode w) with hlo | hle
  · obtain ⟨rfl, rfl⟩ := hglobal hlo
    obtain ⟨hsize, hpos, hb⟩ := global1Field_bounds hlo hhi
    refine ⟨fun hzero => absurd hzero hsize, fun _ hnone => absurd hnone hb, fun bpw n q p hbpw _ hb' hn hq hp =>
      ⟨fun _ c hc hc' hfst hsnd => ?_, fun hle => absurd hlo (Nat.not_lt.mpr hle),
        fun hle => absurd hlo (Nat.not_lt.mpr hle)⟩⟩
    obtain ⟨x, rfl, hadjust⟩ := adjustPointer_of_formula hpos hbpw hb' hn hq hp
    exact does_execAdjbp_global1 he hread hlo hhi hadjust hc hc' (Prod.ext hfst (Int.ofNat_inj.mp hsnd))
  · obtain ⟨rfl, rfl⟩ := hown hle
    have hfields := adjustFields_own hle
    have hnot : ¬ 36 < (w.extractLsb' 30 6).toNat := Nat.not_lt.mpr hle
    cases hbit : w.getMsbD 12 with
    | false =>
      have hk := pointerKind_local1 hle hbit
      have hnone : s.secondPointerWord e w = .ok 0 := secondPointerWord_none (by rw [hk]; nofun)
      refine ⟨fun hzero => ⟨fun _ => ?_, nofun⟩, does_execAdjbp_none he hread hfields hnone,
        fun bpw n q p hbpw hsize hb hn hq hp => ⟨fun hlo => absurd hlo hnot, fun _ _ => ?_, nofun⟩⟩
      · have hdoes := does_execAdjbp_copy (ac := ac) he hread hfields hnone hzero
        rwa [hk] at hdoes
      · obtain ⟨x, rfl, hadjust⟩ := adjustPointer_of_formula hle hbpw hb hn hq hp
        exact does_execAdjbp_local1 he hread hle hbit hsize (fun h => hb (by rw [hbpw]; exact congrArg _ h)) hadjust
    | true =>
      have hk := pointerKind_global2 hle hbit
      obtain ⟨hp2, rfl⟩ := hsecond hle hbit
      have hword := secondPointerWord_global2 hk hp2
      refine ⟨fun hzero => ⟨nofun, fun _ => ?_⟩, does_execAdjbp_none he hread hfields hword,
        fun bpw n q p hbpw hsize hb hn hq hp => ⟨fun hlo => absurd hlo hnot, nofun, fun _ _ => ?_⟩⟩
      · have hdoes := does_execAdjbp_copy (ac := ac) he hread hfields hword hzero
        rwa [hk] at hdoes
      · obtain ⟨x, rfl, hadjust⟩ := adjustPointer_of_formula hle hbpw hb hn hq hp
        exact does_execAdjbp_global2 he hread hle hbit hword hsize (fun h => hb (by rw [hbpw]; exact congrArg _ h))
          hadjust

end Sys2Proof.Machine
end
